-- ==== Sys2Proof/Word.lean ====
section
/-! DEFINITION. The words the manual counts in bits: bytes, node ids, tote ids, sequence numbers and group numbers. -/

namespace Sys2Proof

/-- One byte of a frame's payload or of the settings block. -/
abbrev Byte := BitVec 8

/-- A node identity on the aisle bus, 0 to 127 (R173). -/
abbrev NodeId := BitVec 7

/-- A tote id, a 32-bit value (R5). The value of all ones is never a tote id: it is the code of an absent one. -/
abbrev ToteId := BitVec 32

/-- A sequence number, 0 to 4095, whose sums wrap (R44). -/
abbrev Seq := BitVec 12

/-- An order group's number, 1 to 255. The value 0 is the code of an absent group (R184). -/
abbrev GroupNo := BitVec 8

end Sys2Proof
end

