-- ==== Sys2Proof/Syntax.lean ====
section
/-! DEFINITION. The commands: one constructor for each row of spec/opcode_table.json, with what the row's event names. -/

namespace Sys2Proof

/-- The two lanes of a level. -/
inductive LaneId where
  | lane0
  | lane1
  deriving DecidableEq, Repr, Inhabited

/-- The debounced inputs of a lane (R27): four stop eyes, the two sill eyes and the carriage-aligned input. -/
inductive InputId where
  | stop (k : Fin 4)
  | sSill
  | lSill
  | aligned
  deriving DecidableEq, Repr

/-- The two encoder inputs of a lane (R113). -/
inductive EncInput where
  | a
  | b
  deriving DecidableEq, Repr

/-- The seven tracked peers of the presence table (R152). -/
inductive PeerId where
  | liftA
  | liftB
  | shuttle
  | front4
  | front5
  | front6
  | front7
  deriving DecidableEq, Repr

/-- The levels of the strap pins (section 11.1, R187): LEVEL 0-4 as a number, LANES (high: two lanes), RATE
(high: 1000 kbit/s) and MEMORY (high: a settings memory is fitted). -/
structure Straps where
  level : BitVec 5
  twoLanes : Bool
  fastRate : Bool
  memory : Bool
  deriving DecidableEq, Repr

/-- The commands of the block: one constructor for each row of spec/opcode_table.json. A row that takes a frame
from the receive queue carries no operand, for the frame at the head of that queue is what it acts on (R182,
log entry 3). A row that reads the straps carries the levels of their pins (R187, log entry 14). -/
inductive Instr where
  /-- POWER_ON (R190). -/
  | powerOn (straps : Straps)
  /-- RESET_PIN (R192): the pin goes low, or it is released. -/
  | resetPin (low : Bool) (straps : Straps)
  /-- SETTINGS_READ_DONE (R188): the bytes the settings memory returned, in address order. -/
  | settingsReadDone (block : List Byte)
  /-- EYE_PIN_CHANGE (R28): the pin of one input is now high, or low. -/
  | eyePinChange (lane : LaneId) (input : InputId) (high : Bool)
  /-- DEBOUNCE_TIMER_EXPIRY (R28). -/
  | debounceTimerExpiry (lane : LaneId) (input : InputId)
  /-- ENCODER_EDGE (R113): one of the two encoder inputs changes level. -/
  | encoderEdge (lane : LaneId) (input : EncInput)
  /-- CURRENT_SAMPLE (R36): one sample of the drive current, 0 to 4095. -/
  | currentSample (lane : LaneId) (value : BitVec 12)
  /-- MOVE_TIMER_EXPIRY (R16). -/
  | moveTimerExpiry (lane : LaneId)
  /-- PUT_WINDOW_EXPIRY (R70). -/
  | putWindowExpiry (lane : LaneId)
  /-- ENTRY_TIMER_EXPIRY (R71). -/
  | entryTimerExpiry (lane : LaneId)
  /-- FETCH_WINDOW_EXPIRY (R78). -/
  | fetchWindowExpiry (lane : LaneId)
  /-- ALIGN_WINDOW_EXPIRY (R98). -/
  | alignWindowExpiry (lane : LaneId)
  /-- STALL_TIMER_EXPIRY (R125). -/
  | stallTimerExpiry (lane : LaneId)
  /-- TRANSFER_TIMER_EXPIRY (R127). -/
  | transferTimerExpiry (lane : LaneId)
  /-- DRAIN_TIMER_EXPIRY (R136). -/
  | drainTimerExpiry (lane : LaneId)
  /-- TURN_TIMER_EXPIRY (R138). -/
  | turnTimerExpiry (lane : LaneId)
  /-- SILENCE_TIMER_EXPIRY (R154). -/
  | silenceTimerExpiry (peer : PeerId)
  /-- BEACON_TIMER_EXPIRY (R177). -/
  | beaconTimerExpiry
  /-- TX_ATTEMPT_START (R175): the line is idle. -/
  | txAttemptStart
  /-- TX_SENT (R175). -/
  | txSent
  /-- ARBITRATION_LOST (R176). -/
  | arbitrationLost
  /-- TX_MISMATCH (R176). -/
  | txMismatch
  /-- FRAME_RECEIVED (R178): the bits on the line from the start mark on, `true` for recessive (R172). -/
  | frameReceived (line : List Bool)
  /-- PUT (R66). -/
  | put
  /-- FETCH (R76). -/
  | fetch
  /-- TAKE (R91). -/
  | take
  /-- GIVE (R94). -/
  | give
  /-- ALIGNED (R96). -/
  | aligned
  /-- ABORT (R100, R72, R79). -/
  | abort
  /-- TURN (R131). -/
  | turn
  /-- ANSWER (R137). -/
  | answer
  /-- GROUP_OPEN (R47). -/
  | groupOpen
  /-- GROUP_CLOSE (R50). -/
  | groupClose
  /-- PASSED (R52). -/
  | passed
  /-- LANE_HOLD (R144). -/
  | laneHold
  /-- LANE_RELEASE (R145). -/
  | laneRelease
  /-- AISLE_HOLD (R147). -/
  | aisleHold
  /-- AISLE_RELEASE (R148). -/
  | aisleRelease
  /-- LANE_RESET (R25). -/
  | laneReset
  /-- NODE_RESET (R192): the straps are read afresh. -/
  | nodeReset (straps : Straps)
  /-- FAULT_CLEAR (R169). -/
  | faultClear
  /-- FAULT_QUERY (R167). -/
  | faultQuery
  deriving DecidableEq, Repr

end Sys2Proof
end

