-- ==== Sys2Proof/Decode.lean ====
section
/-! DEFINITION. The words of spec/opcode_table.json. -/

namespace Sys2Proof

/-- No row of spec/opcode_table.json gives bits: the rows are events, and no word spells one. So every word is
refused (log entry 33). The frames that carry a command on the line have their own coding (R172, R173), in
`Sys2Proof.Machine.receiveLine`. -/
def decodeTableWord (_nbits _w : Nat) : Option Instr := none

end Sys2Proof
end

