-- ==== Sys2Proof/Config.lean ====
section
/-! DEFINITION. The free values: what the manual leaves to the world. -/

namespace Sys2Proof

/-- DESIGN CHOICE (log entry 6). Where several blocks take the news of one change "in either order" and the manual
fixes no order, the `n`-th such choice of a run is `freeChoice n`, taken modulo the number of blocks still to
act. It has no body: a statement holds whatever order the world takes. -/
opaque freeChoice : Nat → Nat

end Sys2Proof
end

