-- ==== Sys2Proof/Machine/Types.lean ====
section
/-! DEFINITION. The data the blocks of the 3240 hold: lanes and tote records, the two end engines, the tracker, the
sensing unit, group entries, presence entries, the fault log, frames and queues. -/

namespace Sys2Proof.Machine

open Sys2Proof

/-- Each element of a vector changed, with its place at hand. Written over the list of elements, so that the kernel can
evaluate it. -/
def eachOf {α β : Type} {n : Nat} (f : Nat → α → β) (v : Vector α n) : Vector β n :=
  ⟨⟨v.toList.mapIdx f⟩, by simp⟩

/-! ### Lanes and tote records (Chapter 1) -/

/-- A lane's direction (R2): OUT toward the lift, IN toward the shuttle. -/
inductive Dir where
  | outward
  | inward
  deriving DecidableEq, Repr, Inhabited

/-- A lane's kind (R1). -/
inductive LaneKind where
  | outOnly
  | inOnly
  | reversible
  deriving DecidableEq, Repr, Inhabited

/-- A lane's state (R3, R4). -/
inductive LaneState where
  | disabled
  | running
  | draining
  | turning
  | faulted
  deriving DecidableEq, Repr, Inhabited

/-- A zone's drive command (R33). -/
inductive Drive where
  | stop
  | forward
  | reverse
  deriving DecidableEq, Repr, Inhabited

/-- A tote's length class (R5). -/
inductive LenClass where
  | standard
  | long
  deriving DecidableEq, Repr, Inhabited

/-- A tote's kind, with the group and seq that R5 gives exactly to a GROUPED tote. -/
inductive ToteKind where
  | grouped (group : GroupNo) (seq : Seq)
  | loose
  | inbound
  deriving DecidableEq, Repr, Inhabited

/-- A tote record's state (R7). -/
inductive ToteState where
  | entering
  | seated
  | moving
  | offered
  | leaving
  | stranded
  deriving DecidableEq, Repr, Inhabited

/-- A release class (R57). -/
inductive ReleaseClass where
  | inWindow
  | ahead
  | late
  | duplicate
  | loose
  | unknownGroup
  deriving DecidableEq, Repr, Inhabited

/-- A tote record (R5). `id` is absent for an unknown tote, `cls` is the release class, present in an OUT lane,
and `advised` is the advisory-raised flag. -/
structure Tote where
  id : Option ToteId
  kind : ToteKind
  len : LenClass
  pos : Nat
  state : ToteState
  cls : Option ReleaseClass
  advised : Bool
  deriving DecidableEq, Repr, Inhabited

/-- A timer: stopped, or running with the milliseconds left of its setting. -/
abbrev Timer := Option Nat

/-- The internal move in progress (R15). -/
structure Move where
  src : Nat
  dst : Nat
  vacated : Bool
  deriving DecidableEq, Repr

/-- The two partners of a lane. -/
inductive Partner where
  | lift
  | shuttle
  deriving DecidableEq, Repr

/-- The turnaround record (R130). The other partner is the one that is not the requester. -/
structure Turnaround where
  requester : Partner
  asked : Dir
  pending : Bool
  drainTimer : Timer
  turnTimer : Timer
  deriving DecidableEq, Repr

/-! ### The end engines (Chapters 4 and 5) -/

/-- The state of an end engine (R62, R83). -/
inductive EndState where
  | idle
  | offering
  | reserved
  | transfer
  deriving DecidableEq, Repr, Inhabited

/-- A current offer: the offered record's tote id, or absent. -/
structure Offer where
  id : Option ToteId
  deriving DecidableEq, Repr

/-- The handover in hand of a shuttle-end engine (R62): the accepted put's fields as R66 reads them, or the accepted
fetch with its sill-passed note. -/
inductive ShuttleHand where
  | put (id : Option ToteId) (kind : ToteKind) (len : LenClass)
  | fetch (id : Option ToteId) (sillPassed : Bool)
  deriving DecidableEq, Repr

/-- A shuttle-end engine (R62). `timer` is its one window timer. -/
structure ShuttleEnd where
  state : EndState
  hand : Option ShuttleHand
  offer : Option Offer
  timer : Timer
  deriving DecidableEq, Repr

/-- The two kinds of lift-end transfer. -/
inductive Transfer where
  | take
  | give
  deriving DecidableEq, Repr, Inhabited

/-- A tote of a lift-end handover (R83). -/
structure HandTote where
  id : Option ToteId
  len : LenClass
  deriving DecidableEq, Repr

/-- The handover in hand of a lift-end engine (R83). The granted count is 2 exactly when `second` is present. -/
structure LiftHand where
  kind : Transfer
  first : HandTote
  second : Option HandTote
  firstGone : Bool
  deriving DecidableEq, Repr

/-- A lift-end engine (R83). `timer` is the align-window timer. -/
structure LiftEnd where
  state : EndState
  head : Option Offer
  second : Option Offer
  hand : Option LiftHand
  frameFlag : Bool
  inputFlag : Bool
  timer : Timer
  deriving DecidableEq, Repr

/-- The two ends of a lane. -/
inductive LaneEnd where
  | liftEnd
  | shuttleEnd
  deriving DecidableEq, Repr

/-! ### The transfer tracker (Chapter 6) -/

/-- The targets of R116. -/
inductive Target where
  | t1
  | t2
  | t3
  | t4
  | g1
  | g2
  | g3
  deriving DecidableEq, Repr

/-- What the lift-end engine hands the tracker at GO (R111): it fixes the target list. `len2` is the second tote's
length class in a take of count 2. -/
structure TrackJob where
  kind : Transfer
  len1 : LenClass
  len2 : Option LenClass
  deriving DecidableEq, Repr

/-- A transfer tracker (R110). `job` gives the target list, `refA` and `refB` are the encoder reference, and `d1`
and `d2` are the anchor offsets (`d1` is a give's δ). -/
structure Tracker where
  running : Bool
  untracked : Bool
  count : Int
  refA : Bool
  refB : Bool
  job : Option TrackJob
  active : Option Target
  d1 : Option Int
  d2 : Option Int
  span : Bool
  stall : Timer
  transfer : Timer
  timedOut : Bool
  deriving DecidableEq, Repr

/-! ### The sensing unit (Chapter 2) -/

/-- A class of drive current (R35). -/
inductive CurrentClass where
  | below
  | inside
  | above
  deriving DecidableEq, Repr, Inhabited

/-- An input (R27, R28): its pin's level, its debounced level (none while unsettled) and its debounce timer. A high
level is CLEAR for an eye and ACTIVE for the aligned input. -/
structure Input where
  pin : Bool
  debounced : Option Bool
  timer : Timer
  deriving DecidableEq, Repr

/-- A sensing unit (R28, R34, R36, R37, R39). `inputs` are in the order stop eyes 0-3, S-sill, L-sill, aligned,
`commanded` is the drive condition and `settleLeft` the samples left of a settling interval. -/
structure Sensing where
  inputs : Vector Input 7
  commanded : Bool
  runClass : CurrentClass
  runCount : Nat
  settleLeft : Nat
  heldClass : CurrentClass
  noLoad : Bool
  deriving DecidableEq, Repr

/-- One lane and the blocks that are present once per lane, with its part of the hold unit (R143): lane hold,
effective hold and the pending-offer latches of its two ends. -/
structure Lane where
  state : LaneState
  kind : LaneKind
  n : Nat
  dir : Dir
  queue : List Tote
  move : Option Move
  moveTimer : Timer
  zones : Vector Drive 4
  turnaround : Option Turnaround
  sEnd : ShuttleEnd
  lEnd : LiftEnd
  tracker : Tracker
  encA : Bool
  encB : Bool
  sensing : Sensing
  laneHold : Bool
  effHold : Bool
  sLatch : Bool
  lLatch : Bool
  deriving DecidableEq, Repr

/-! ### The group table (Chapter 3) -/

/-- A group entry's state (R42). -/
inductive GroupState where
  | opened
  | closed
  deriving DecidableEq, Repr

/-- A group entry (R42). Flag i of the ahead mask is bit i of `mask`. -/
structure GroupEntry where
  group : GroupNo
  state : GroupState
  cursor : Seq
  window : Nat
  mask : BitVec 32
  last : Option Seq
  deriving DecidableEq, Repr

/-! ### The presence table (Chapter 8) -/

/-- A presence entry's state (R152). -/
inductive PeerState where
  | absent
  | present
  | late
  | lost
  deriving DecidableEq, Repr, Inhabited

/-- A presence entry (R152). A front-end entry has no service state: its `inService` stays false. -/
structure Peer where
  state : PeerState
  inService : Bool
  timer : Timer
  deriving DecidableEq, Repr

/-! ### The fault log (Chapter 9) -/

/-- The 30 fault kinds, in the order of their numbers (R160). -/
inductive FaultKind where
  | moveTimeout
  | entryTimeout
  | phantom
  | sillBlocked
  | overload
  | driveStuck
  | stall
  | edgeEarly
  | edgeLate
  | length
  | runout
  | transferTime
  | stranded
  | noLoad
  | encoderLost
  | lostTote
  | seqLate
  | seqDuplicate
  | seqRange
  | groupUnknown
  | groupTableFull
  | peerLost
  | holderOverflow
  | configDefaulted
  | rxCrc
  | rxMalformed
  | rxOverflow
  | txOverflow
  | txFail
  | access
  deriving DecidableEq, Repr

/-- The three classes of fault kind (R160). -/
inductive FaultClass where
  | lane
  | advisory
  | link
  deriving DecidableEq, Repr

/-- What the log holds of one kind (R162). -/
structure KindLog where
  status : Bool
  count : Nat
  masked : Bool
  escalate : Bool
  deriving DecidableEq, Repr

/-- The header and length of a frame, as the fault log keeps them (R161). -/
structure FrameRef where
  cls : BitVec 3
  src : NodeId
  code : BitVec 6
  len : BitVec 4
  deriving DecidableEq, Repr

/-- Tracker data of an occurrence (R161). -/
structure TrackData where
  count : Int
  offset : Option Int
  deriving DecidableEq, Repr

/-- An occurrence of a fault kind (R161). `tote` is the lost peer's node id for PEER_LOST. -/
structure Occurrence where
  kind : FaultKind
  lane : Option LaneId
  tote : Option ToteId
  frame : Option FrameRef
  track : Option TrackData
  deriving DecidableEq, Repr

/-- The blocks of one lane that raise faults (R160). -/
inductive LaneBlock where
  | laneUnit
  | shuttleEnd
  | liftEnd
  | tracker
  | sensing
  deriving DecidableEq, Repr

/-- The blocks that raise faults: the column Raised by of R160, those of a lane once per lane. -/
inductive Block where
  | ofLane (b : LaneBlock) (i : LaneId)
  | groupTable
  | presence
  | holds
  | startUp
  | busLink
  deriving DecidableEq, Repr

/-- An occurrence on its way from the block that raised it to the fault log (R161, R163). -/
structure Handed where
  block : Block
  occurrence : Occurrence
  deriving DecidableEq, Repr

/-- A filled first-fault record (R165). -/
structure FirstFault where
  occurrence : Occurrence
  time : BitVec 32
  multiple : Bool
  deriving DecidableEq, Repr

/-- The fault log (R162, R165): the kinds in the order of their numbers, and the first-fault record. -/
structure FaultLog where
  kinds : Vector KindLog 30
  first : Option FirstFault
  deriving DecidableEq, Repr

/-! ### The aisle bus (Chapter 10) -/

/-- A frame (R173): header, and payload bytes whose number is the length field. -/
structure Frame where
  cls : BitVec 3
  src : NodeId
  code : BitVec 6
  payload : List Byte
  deriving DecidableEq, Repr, Inhabited

/-- The two transmit queues (R174). -/
inductive TxQueue where
  | urgent
  | routine
  deriving DecidableEq, Repr

/-- The bus link (R174, R175, R177, R182). `attempt` names the queue whose head frame is being sent, and the two
tries are the attempt counts of the queues' head frames. -/
structure BusLink where
  urgent : List Frame
  routine : List Frame
  received : List Frame
  attempt : Option TxQueue
  urgentTries : Nat
  routineTries : Nat
  beaconTimer : Timer
  deriving DecidableEq, Repr

/-! ### Start-up and settings (Chapter 11) -/

/-- The node's state (R190, R191). `held` is the node held in reset by a low RESET pin (R192). -/
inductive NodeState where
  | held
  | loading
  | listening
  | running
  deriving DecidableEq, Repr, Inhabited

/-- The settings of one lane (R188). Geometry is in encoder counts, times are in ms. -/
structure LaneSettings where
  kind : LaneKind
  initialDir : Dir
  positions : Nat
  ds : Nat
  dg : Nat
  dseat : Nat
  pitch : Nat
  len0 : Nat
  len1 : Nat
  tol : Nat
  moveTime : Nat
  putWindow : Nat
  fetchWindow : Nat
  alignWindow : Nat
  transferTime : Nat
  stallTime : Nat
  currentLow : Nat
  currentHigh : Nat
  persistence : Nat
  deriving DecidableEq, Repr

/-- The settings in force (R188, R189). Bit k−1 of `mask` masks kind k, and bit k−1 of `escalate` escalates lane
fault k. -/
structure Settings where
  lane0 : LaneSettings
  lane1 : LaneSettings
  debounce : Nat
  beaconPeriod : Nat
  groupWindow : Nat
  drainTime : Nat
  turnTime : Nat
  mask : BitVec 32
  escalate : BitVec 16
  deriving DecidableEq, Repr

end Sys2Proof.Machine
end

