-- ==== Sys2Proof/Machine/Line.lean ====
section
/-! DEFINITION. Frames on the line: the CRC, bit stuffing, what the bus link sends and how it takes a frame off the line
(R172, R173, R178). A bit is `true` for recessive. -/

namespace Sys2Proof.Machine

open Sys2Proof

/-- One bit of the CRC of R173: x^16 + x^12 + x^5 + 1, shifted in most significant first. -/
def crcStep (crc : BitVec 16) (b : Bool) : BitVec 16 :=
  if (crc.msb ^^ b) then (crc <<< 1) ^^^ 0x1021#16 else crc <<< 1

/-- The CRC of a run of bits: the register starts at all ones and is not inverted (R173, R188). -/
def crc16 (bits : List Bool) : BitVec 16 := bits.foldl crcStep 0xFFFF#16

/-- A field's bits, most significant first (R173). -/
def fieldBits {w : Nat} (x : BitVec w) : List Bool := (List.range w).map fun i => x.getMsbD i

/-- The number that bits spell, most significant first, in `w` bits. -/
def bitsField (w : Nat) (bits : List Bool) : BitVec w :=
  bits.foldl (fun a b => (a <<< 1) ||| (if b then 1#w else 0#w)) 0#w

/-- The bits of a list of bytes, in order. -/
def byteBits (bytes : List Byte) : List Bool := bytes.flatMap fieldBits

/-- The bytes that bits spell, eight bits a byte, `n` bytes. -/
def bitsBytes : Nat → List Bool → List Byte
  | 0, _ => []
  | n + 1, bits => bitsField 8 (bits.take 8) :: bitsBytes n (bits.drop 8)

/-- The header's 16 bits (R173): class, source and kind code. -/
def headerWord (cls : BitVec 3) (src : NodeId) (code : BitVec 6) : BitVec 16 := cls ++ src ++ code

/-- A frame's header, length and payload bits, over which its CRC is computed (R173). -/
def frameBody (f : Frame) : List Bool :=
  fieldBits (headerWord f.cls f.src f.code) ++ fieldBits (BitVec.ofNat 4 f.payload.length) ++ byteBits f.payload

/-- R172: after every run of five equal bits the sender inserts one bit of the opposite value. `last` and `run` are
the value and the length of the run on the line so far (log entry 18: an inserted bit begins a run of its own). -/
def stuffFrom (last : Bool) (run : Nat) : List Bool → List Bool
  | [] => []
  | b :: bits =>
    let run' := if b = last then run + 1 else 1
    if run' = 5 then b :: (!b) :: stuffFrom (!b) 1 bits else b :: stuffFrom b run' bits

/-- The end mark, 7 recessive bits (R172). -/
def endMark : List Bool := List.replicate 7 true

/-- What the bus link drives for a frame: the start mark, the stuffed body and CRC, and the end mark (R172, R173). -/
def lineBits (f : Frame) : List Bool :=
  false :: stuffFrom false 1 (frameBody f ++ fieldBits (crc16 (frameBody f))) ++ endMark

/-- Bits taken off the line with the stuffing removed. `tail` is absent when the frame broke first, by a stuffing
violation or by the line's end. Otherwise it is the last run's value and length and the line still to be read. -/
structure Taken where
  bits : List Bool
  tail : Option (Bool × Nat × List Bool)
  deriving DecidableEq, Repr

/-- One more bit in front of those taken. -/
def Taken.push (b : Bool) (t : Taken) : Taken := { t with bits := b :: t.bits }

/-- Takes `need` bits off the line, removing the bit after every run of five equal bits (R172, R178). -/
def destuff (last : Bool) (run : Nat) : List Bool → Nat → Taken
  | line, 0 => ⟨[], some (last, run, line)⟩
  | [], _ + 1 => ⟨[], none⟩
  | b :: line, need + 1 =>
    if run = 5 then
      if b = last then ⟨[], none⟩ else destuff b 1 line (need + 1)
    else (destuff b (if b = last then run + 1 else 1) line need).push b

/-- The line after the last CRC bit: a run of five that ended there is followed by its inserted bit. -/
def afterStuffing (last : Bool) (run : Nat) (line : List Bool) : Option (List Bool) :=
  if run = 5 then
    match line with
    | [] => none
    | b :: rest => if b = last then none else some rest
  else some line

/-- What the bus link makes of the bits on the line (R178): a length field of 13 to 15, a broken frame, each with the
header and length as read, or a whole frame. -/
inductive Received where
  | badLength (ref : FrameRef)
  | broken (ref : FrameRef)
  | whole (f : Frame)
  deriving DecidableEq, Repr

/-- Header and length as read, the bits never read recorded as zero (R178). -/
def readRef (bits : List Bool) : FrameRef :=
  let all := (bits ++ List.replicate 20 false).take 20
  { cls := bitsField 3 (all.take 3)
    src := bitsField 7 ((all.drop 3).take 7)
    code := bitsField 6 ((all.drop 10).take 6)
    len := bitsField 4 (all.drop 16) }

/-- R178's judgement once the length is known: the payload, the CRC and the end mark. -/
def receiveBody (ref : FrameRef) (head : List Bool) (last : Bool) (run : Nat) (line : List Bool) : Received :=
  let payloadBits := 8 * ref.len.toNat
  let body := destuff last run line (payloadBits + 16)
  match body.tail with
  | none => .broken ref
  | some (last', run', line') =>
    match afterStuffing last' run' line' with
    | none => .broken ref
    | some rest =>
      let payload := body.bits.take payloadBits
      if rest.take 7 = endMark ∧ bitsField 16 (body.bits.drop payloadBits) = crc16 (head ++ payload) then
        .whole { cls := ref.cls, src := ref.src, code := ref.code, payload := bitsBytes ref.len.toNat payload }
      else .broken ref

/-- R178: takes a frame off the line. The length field is judged as soon as it has been read (log entry 19). -/
def receiveLine (line : List Bool) : Received :=
  match line with
  | [] => .broken (readRef [])
  | true :: _ => .broken (readRef [])
  | false :: rest =>
    let head := destuff false 1 rest 20
    let ref := readRef head.bits
    match head.tail with
    | none => .broken ref
    | some (last, run, line') =>
      if 13 ≤ ref.len.toNat then .badLength ref else receiveBody ref head.bits last run line'

end Sys2Proof.Machine
end

