-- ==== Sys2Proof/Machine/Settings.lean ====
section
/-! DEFINITION. The settings block (R188), its checks and clamps, and the defaults (R115, R189). -/

namespace Sys2Proof.Machine

open Sys2Proof

/-- A lane's default settings (R115, R189). -/
def defaultLaneSettings : LaneSettings :=
  { kind := .outOnly, initialDir := .outward, positions := 4
    ds := 180, dg := 250, dseat := 1950, pitch := 2000, len0 := 1200, len1 := 1700, tol := 40
    moveTime := 2500, putWindow := 5000, fetchWindow := 5000, alignWindow := 15000
    transferTime := 4000, stallTime := 250
    currentLow := 50, currentHigh := 1500, persistence := 5 }

/-- The settings in force when the block is rejected (R189). -/
def defaultSettings : Settings :=
  { lane0 := defaultLaneSettings, lane1 := defaultLaneSettings
    debounce := 4, beaconPeriod := 100, groupWindow := 4, drainTime := 30000, turnTime := 2000
    mask := 0, escalate := 0 }

/-- A byte of the block. A byte that was not returned reads as all ones, as from an absent memory (R188). -/
def blockByte (block : List Byte) (i : Nat) : Byte := block.getD i 0xFF#8

/-- A two-byte field, most significant byte first (R188). -/
def blockWord (block : List Byte) (i : Nat) : BitVec 16 := blockByte block i ++ blockByte block (i + 1)

/-- The four-byte fault mask (R188). -/
def blockMask (block : List Byte) : BitVec 32 := blockWord block 53 ++ blockWord block 55

/-- Bits `hi` down to `lo` of a field, as a number. -/
def fieldNat {w : Nat} (x : BitVec w) (lo len : Nat) : Nat := (x.extractLsb' lo len).toNat

/-- The offset of a lane's section (R188). -/
def sectionOffset : LaneId → Nat
  | .lane0 => 0
  | .lane1 => 24

/-- A value clamped to its range (R188). -/
def clamp (lo hi v : Nat) : Nat := max lo (min hi v)

/-- A lane kind's code (R188): 3 is invalid. -/
def laneKindOf : Nat → Option LaneKind
  | 0 => some .outOnly
  | 1 => some .inOnly
  | 2 => some .reversible
  | _ => none

/-- A direction's code (R188): 2 and 3 are invalid. -/
def initialDirOf : Nat → Option Dir
  | 0 => some .outward
  | 1 => some .inward
  | _ => none

/-- A lane's section as written, its timing values converted to ms and clamped (R188). None for an invalid kind,
direction or positions code. -/
def readLaneSettings (block : List Byte) (i : LaneId) : Option LaneSettings :=
  let o := sectionOffset i
  let b0 := blockByte block o
  let positions := fieldNat b0 4 3
  match laneKindOf (fieldNat b0 0 2), initialDirOf (fieldNat b0 2 2) with
  | some kind, some dir =>
    if 2 ≤ positions ∧ positions ≤ 4 then
      some
        { kind := kind, initialDir := dir, positions := positions
          ds := fieldNat (blockWord block (o + 1)) 0 13
          dg := fieldNat (blockWord block (o + 3)) 0 13
          dseat := fieldNat (blockWord block (o + 5)) 0 13
          pitch := fieldNat (blockWord block (o + 7)) 0 13
          len0 := fieldNat (blockWord block (o + 9)) 0 13
          len1 := fieldNat (blockWord block (o + 11)) 0 13
          tol := (blockByte block (o + 13)).toNat
          moveTime := clamp 200 10000 (50 * (blockByte block (o + 14)).toNat)
          putWindow := clamp 500 30000 (250 * (blockByte block (o + 15)).toNat)
          fetchWindow := clamp 500 30000 (250 * (blockByte block (o + 16)).toNat)
          alignWindow := clamp 1000 60000 (250 * (blockByte block (o + 17)).toNat)
          transferTime := clamp 500 30000 (250 * (blockByte block (o + 18)).toNat)
          stallTime := clamp 50 2000 (10 * (blockByte block (o + 19)).toNat)
          currentLow := fieldNat (blockWord block (o + 20)) 0 12
          persistence := fieldNat (blockWord block (o + 20)) 12 4
          currentHigh := fieldNat (blockWord block (o + 22)) 0 12 }
    else none
  | _, _ => none

/-- The five geometry conditions of R115. -/
def geometryOk (c : LaneSettings) : Bool :=
  1 ≤ c.tol && c.len0 < c.len1 && c.len1 < c.dseat && c.len1 < c.pitch && 2 * c.tol < c.len0

/-- The structural check of a lane's section (R188): its codes, its geometry, its thresholds and its persistence. -/
def checkLaneSettings (block : List Byte) (i : LaneId) : Option LaneSettings :=
  (readLaneSettings block i).filter fun c =>
    geometryOk c && c.currentLow < c.currentHigh && c.persistence != 0

/-- The block's CRC over bytes 0-61 against bytes 62-63 (R188). -/
def blockCrcOk (block : List Byte) : Bool :=
  crc16 (byteBits ((List.range 62).map (blockByte block))) == blockWord block 62

/-- The settings an accepted block gives, or none where the block is rejected (R188, R189). The lane 1 section of a
part strapped for one lane is neither checked nor used. -/
def readSettings (block : List Byte) (straps : Straps) : Option Settings :=
  if !straps.memory || !blockCrcOk block then none
  else
    match checkLaneSettings block .lane0,
        (if straps.twoLanes then checkLaneSettings block .lane1 else some defaultLaneSettings) with
    | some c0, some c1 =>
      some
        { lane0 := c0, lane1 := c1
          debounce := fieldNat (blockByte block 48) 0 4
          beaconPeriod := clamp 20 1000 (5 * (blockByte block 49).toNat)
          groupWindow := clamp 1 32 (blockByte block 50).toNat
          drainTime := clamp 1000 60000 (250 * (blockByte block 51).toNat)
          turnTime := clamp 200 10000 (50 * (blockByte block 52).toNat)
          mask := blockMask block
          escalate := blockWord block 57 }
    | _, _ => none

end Sys2Proof.Machine
end

