-- ==== Sys2Proof/Machine/Initial.lean ====
section
/-! DEFINITION. What each block holds after power-on, the RESET pin and NODE RESET. -/

namespace Sys2Proof.Machine

open Sys2Proof

/-- R82: a shuttle-end engine after reset. -/
def ShuttleEnd.initial : ShuttleEnd := { state := .idle, hand := none, offer := none, timer := none }

/-- R109: a lift-end engine after reset. -/
def LiftEnd.initial : LiftEnd :=
  { state := .idle, head := none, second := none, hand := none
    frameFlag := false, inputFlag := false, timer := none }

/-- R129: a tracker after reset. -/
def Tracker.initial : Tracker :=
  { running := false, untracked := false, count := 0, refA := false, refB := false
    job := none, active := none, d1 := none, d2 := none, span := false
    stall := none, transfer := none, timedOut := false }

/-- R41: the debounced state after reset of the input at place `j` of a lane's list. In a fitted lane it is unsettled. In a
lane that is not fitted an eye is CLEAR and the aligned input INACTIVE. -/
def debouncedAtReset (fitted : Bool) (j : Nat) : Option Bool := if fitted then none else some (decide (j < 6))

/-- R41: an input after reset, its debounce timer stopped. -/
def Input.initial (pin : Bool) (debounced : Option Bool) : Input := { pin := pin, debounced := debounced, timer := none }

/-- R41: a sensing unit after reset, the levels of its pins given. -/
def Sensing.initial (inputs : Vector Input 7) : Sensing :=
  { inputs := inputs, commanded := false, runClass := .below, runCount := 0, settleLeft := 0
    heldClass := .below, noLoad := false }

/-- DESIGN CHOICE (log entry 12): at reset the pins of the eyes are high (CLEAR) and the aligned pin is low. -/
def pinsAtReset : Vector Bool 7 := #v[true, true, true, true, true, true, false]

/-- R41: the inputs of a lane after reset, the levels of its pins given. -/
def inputsAtReset (pins : Vector Bool 7) (fitted : Bool) : Vector Input 7 :=
  eachOf (fun j pin => .initial pin (debouncedAtReset fitted j)) pins

/-- A lane after reset and before the settings are handed over (R26, R33, R41, R142, R158). Its kind and positions are not
yet taken, and the fitting that the straps give shows in its inputs alone: DESIGN CHOICE (log entry 13). -/
def Lane.initial (fitted : Bool) : Lane :=
  { state := .disabled, kind := .outOnly, n := 4, dir := .outward, queue := []
    move := none, moveTimer := none, zones := Vector.replicate 4 .stop, turnaround := none
    sEnd := .initial, lEnd := .initial, tracker := .initial, encA := false, encB := false
    sensing := .initial (inputsAtReset pinsAtReset fitted)
    laneHold := false, effHold := false, sLatch := false, lLatch := false }

/-- R171: the log of one kind after reset. R162 and R171 give the mask and escalate settings only as the settings in force,
which are not handed over yet. Until then the kind is unmasked and does not escalate: DESIGN CHOICE (log entry 31). -/
def KindLog.initial : KindLog := { status := false, count := 0, masked := false, escalate := false }

/-- R171: the fault log after reset. -/
def FaultLog.initial : FaultLog := { kinds := Vector.replicate 30 .initial, first := none }

/-- R159: a presence entry after reset. -/
def Peer.initial : Peer := { state := .absent, inService := false, timer := none }

/-- R183: the bus link after reset. -/
def BusLink.initial : BusLink :=
  { urgent := [], routine := [], received := [], attempt := none
    urgentTries := 0, routineTries := 0, beaconTimer := none }

/-- DESIGN CHOICE (log entry 11): the straps of a part that has been powered on and waits for its settings memory: MEMORY
high, every other strap pin low. -/
def strapsAtReset : Straps := { level := 0, twoLanes := false, fastRate := false, memory := true }

end Sys2Proof.Machine
end

