-- ==== Sys2Proof/Machine/State.lean ====
section
/-! DEFINITION. The machine's state, its outcomes' reasons and its state after reset. -/

namespace Sys2Proof.Machine

open Sys2Proof

/-- The reasons a command can fault: none. Every fault the manual names is a fault of the lane or the bus that the
block records and goes on from (Chapter 9), so it is an effect on State. -/
inductive Fault where
  deriving DecidableEq, Repr

/-- The reasons a command can be refused. -/
inductive Refusal where
  /-- Raised by an arm of `exec` for a command that has no meaning yet. Safe: nothing is claimed of it. No arm
  raises it. -/
  | notModelled (mnemonic : String)
  deriving DecidableEq, Repr

/-- The whole state of the 3240. `unlogged`, `cause` and `choices` are the model's own: the occurrences a command has raised
and the fault log has not taken yet (log entry 7), the frame in hand (log entry 20) and the free choices made (log entry
6). `pending` is the queue of commands the world has sent. -/
structure State where
  node : NodeState
  resetLow : Bool
  straps : Straps
  settingsTaken : Bool
  settings : Settings
  defaulted : Bool
  listenExpiries : Nat
  timeBase : BitVec 32
  lane0 : Lane
  lane1 : Lane
  groups : List GroupEntry
  levelHold : Bool
  holders : List NodeId
  overflow : Bool
  peers : Vector Peer 7
  log : FaultLog
  bus : BusLink
  unlogged : List Handed
  cause : Option FrameRef
  choices : Nat
  pending : List Instr
  deriving DecidableEq, Repr

/-- The machine right after power-on (R190): in LOADING with the time base at 0, every block in its after-reset state
and no command waiting. With the strap values of log entry 11 one lane is fitted, and the settings memory is still to be
read. -/
def State.reset : State :=
  { node := .loading, resetLow := false, straps := strapsAtReset, settingsTaken := false
    settings := defaultSettings, defaulted := false, listenExpiries := 0, timeBase := 0
    lane0 := .initial true, lane1 := .initial strapsAtReset.twoLanes
    groups := [], levelHold := false, holders := []
    overflow := false, peers := Vector.replicate 7 .initial, log := .initial, bus := .initial
    unlogged := [], cause := none, choices := 0, pending := [] }

end Sys2Proof.Machine
end

