-- ==== Sys2Proof/Machine/Clock.lean ====
section
/-! DEFINITION. One millisecond with no command waiting: the time base (R164) and the running timers (log entry 5). -/

namespace Sys2Proof.Machine

open Sys2Proof

/-- A running timer with one millisecond less to go. -/
def tickTimer (t : Timer) : Timer := t.map (· - 1)

/-- A turnaround record's two timers (R130). -/
def Turnaround.tick (t : Turnaround) : Turnaround :=
  { t with drainTimer := tickTimer t.drainTimer, turnTimer := tickTimer t.turnTimer }

/-- The timers of a lane and of its blocks. -/
def Lane.tick (l : Lane) : Lane :=
  { l with
    moveTimer := tickTimer l.moveTimer
    turnaround := l.turnaround.map Turnaround.tick
    sEnd := { l.sEnd with timer := tickTimer l.sEnd.timer }
    lEnd := { l.lEnd with timer := tickTimer l.lEnd.timer }
    tracker := { l.tracker with stall := tickTimer l.tracker.stall, transfer := tickTimer l.tracker.transfer }
    sensing :=
      { l.sensing with inputs := eachOf (fun _ x => { x with timer := tickTimer x.timer }) l.sensing.inputs } }

/-- R164: the time base advances by one each millisecond, and every running timer has one millisecond less to go. A node
held in reset keeps its state (R192). -/
def State.tick (s : State) : State :=
  if s.node = .held then s
  else
    { s with
      timeBase := s.timeBase + 1
      lane0 := s.lane0.tick
      lane1 := s.lane1.tick
      peers := eachOf (fun _ p => { p with timer := tickTimer p.timer }) s.peers
      bus := { s.bus with beaconTimer := tickTimer s.bus.beaconTimer } }

end Sys2Proof.Machine
end

