-- ==== Sys2Proof/Machine/Operands.lean ====
section
/-! DEFINITION. Frame kinds with their classes, lengths and owners (R179-R181), the fields the bus link reads from a frame
(R184), and the code lists. -/

namespace Sys2Proof.Machine

open Sys2Proof

/-! ### Frame kinds -/

/-- The frame kinds of R179. -/
inductive FrameKind where
  | beacon
  | aisleHold
  | aisleRelease
  | offer
  | withdraw
  | take
  | give
  | put
  | fetch
  | reply
  | aligned
  | go
  | abort
  | ended
  | turn
  | propose
  | answer
  | turned
  | groupOpen
  | groupClose
  | passed
  | laneHold
  | laneRelease
  | laneReset
  | nodeReset
  | faultClear
  | faultQuery
  | faultNotice
  | faultReport
  deriving DecidableEq, Repr

/-- Every frame kind, in the order of the table of R179. -/
def allFrameKinds : List FrameKind :=
  [.beacon, .aisleHold, .aisleRelease, .offer, .withdraw, .take, .give, .put, .fetch, .reply, .aligned, .go,
   .abort, .ended, .turn, .propose, .answer, .turned, .groupOpen, .groupClose, .passed, .laneHold,
   .laneRelease, .laneReset, .nodeReset, .faultClear, .faultQuery, .faultNotice, .faultReport]

/-- A kind's code (R179). -/
def kindCode : FrameKind → BitVec 6
  | .beacon => 0x01
  | .aisleHold => 0x04
  | .aisleRelease => 0x05
  | .offer => 0x08
  | .withdraw => 0x09
  | .take => 0x0A
  | .give => 0x0B
  | .put => 0x0C
  | .fetch => 0x0D
  | .reply => 0x0E
  | .aligned => 0x0F
  | .go => 0x10
  | .abort => 0x11
  | .ended => 0x12
  | .turn => 0x14
  | .propose => 0x15
  | .answer => 0x16
  | .turned => 0x17
  | .groupOpen => 0x18
  | .groupClose => 0x19
  | .passed => 0x1A
  | .laneHold => 0x20
  | .laneRelease => 0x21
  | .laneReset => 0x22
  | .nodeReset => 0x23
  | .faultClear => 0x24
  | .faultQuery => 0x25
  | .faultNotice => 0x28
  | .faultReport => 0x29

/-- The kind of a code, none where the table of R179 has no such code. -/
def kindOfCode (c : BitVec 6) : Option FrameKind := allFrameKinds.find? fun k => kindCode k == c

/-- The class of a kind (R179). None for the five kinds whose class depends on their end field. -/
def kindClass : FrameKind → Option (BitVec 3)
  | .beacon => some 6
  | .aisleHold | .aisleRelease => some 0
  | .offer | .withdraw | .reply | .abort | .ended => none
  | .take | .give | .aligned | .go => some 1
  | .put | .fetch | .turn | .propose | .answer | .turned => some 2
  | .groupOpen | .groupClose | .passed => some 3
  | .laneHold | .laneRelease | .laneReset | .nodeReset | .faultClear | .faultQuery => some 4
  | .faultNotice | .faultReport => some 5

/-- R179: a source whose BEACON must carry a payload byte: the lifts and the shuttles. -/
def beaconNeedsByte (src : NodeId) : Bool := src == 1 || src == 2 || (64 ≤ src.toNat && src.toNat ≤ 95)

/-- The allowed payload lengths of a kind (R179), the BEACON's by its source. -/
def kindLengthOk (k : FrameKind) (src : NodeId) (len : Nat) : Bool :=
  match k with
  | .beacon => (if beaconNeedsByte src then 1 else 0) ≤ len && len ≤ 12
  | .aisleHold => len == 0
  | .aisleRelease | .groupClose | .nodeReset | .faultClear => len == 1
  | .offer | .reply => len == 9
  | .withdraw | .fetch | .groupOpen => len == 6
  | .take | .give | .faultNotice => len == 7
  | .put => len == 10
  | .aligned | .laneHold | .laneRelease | .laneReset | .faultQuery => len == 2
  | .go | .turned => len == 4
  | .abort | .turn | .propose | .answer => len == 3
  | .ended => len == 12
  | .passed => len == 5
  | .faultReport => [0, 5, 7, 8, 9, 11, 12].contains len

/-- R180: the maintenance kinds. -/
def kindMaintenance : FrameKind → Bool
  | .laneHold | .laneRelease | .laneReset | .nodeReset | .faultClear | .faultQuery => true
  | _ => false

/-- R179: whether a kind has an owner at this 3240 that takes it from the receive queue. -/
def kindOwned : FrameKind → Bool
  | .beacon | .offer | .withdraw | .reply | .go | .ended | .propose | .turned | .faultNotice | .faultReport => false
  | _ => true

/-- R181: whether a kind's payload byte 0 is a level: from OFFER to TURNED and from LANE HOLD to FAULT QUERY. -/
def kindLevelAddressed : FrameKind → Bool
  | .beacon | .aisleHold | .aisleRelease | .groupOpen | .groupClose | .passed | .faultNotice | .faultReport => false
  | _ => true

/-! ### Reading fields (R184) -/

/-- A payload byte. -/
def Frame.byte (f : Frame) (i : Nat) : Byte := f.payload.getD i 0

/-- The header and length of a frame, as the fault log keeps them (R161). -/
def Frame.ref (f : Frame) : FrameRef :=
  { cls := f.cls, src := f.src, code := f.code, len := BitVec.ofNat 4 f.payload.length }

/-- An absent tote id is carried as all ones (R184). -/
def toteIdOf (x : BitVec 32) : Option ToteId := if x = BitVec.allOnes 32 then none else some x

/-- The code of a tote id that may be absent (R184). -/
def toteIdCode (t : Option ToteId) : BitVec 32 := t.getD (BitVec.allOnes 32)

/-- The tote id in the four bytes from `i` on. -/
def Frame.toteId (f : Frame) (i : Nat) : Option ToteId :=
  toteIdOf (f.byte i ++ f.byte (i + 1) ++ f.byte (i + 2) ++ f.byte (i + 3))

/-- A two-byte word. -/
def Frame.word (f : Frame) (i : Nat) : BitVec 16 := f.byte i ++ f.byte (i + 1)

/-- The seq of a seq word or of a seq/length word: bits 11-0 (R184). -/
def Frame.seq (f : Frame) (i : Nat) : Seq := (f.word i).setWidth 12

/-- A lane of its bit. -/
def laneOfBit (b : Bool) : LaneId := if b then .lane1 else .lane0

/-- A lane's bit. -/
def laneBit : LaneId → Bool
  | .lane0 => false
  | .lane1 => true

/-- The lane of a lane byte or of a lane/end byte: bit 0 (R184). -/
def Frame.lane (f : Frame) : LaneId := laneOfBit ((f.byte 1).getLsbD 0)

/-- The end of a lane/end byte: bit 1 (R184). -/
def Frame.laneEnd (f : Frame) : LaneEnd := if (f.byte 1).getLsbD 1 then .shuttleEnd else .liftEnd

/-- The length class of a GIVE: a code other than STANDARD is LONG (R94). -/
def Frame.giveLen (f : Frame) : LenClass := if f.byte 6 = 0 then .standard else .long

/-- The length class of a PUT: bit 15 of its seq/length word (R184). -/
def Frame.putLen (f : Frame) : LenClass := if (f.word 8).getLsbD 15 then .long else .standard

/-- The kind of a PUT as R66 reads it. -/
def Frame.putKind (f : Frame) : ToteKind :=
  if f.byte 6 = 0 then (if f.byte 7 = 0 then .loose else .grouped (f.byte 7) (f.seq 8))
  else if f.byte 6 = 2 then .inbound else .loose

/-- The lane choice of a PUT: none is EITHER, for every code but 0 and 1 (R64). -/
def Frame.laneChoice (f : Frame) : Option LaneId :=
  if f.byte 1 = 0 then some .lane0 else if f.byte 1 = 1 then some .lane1 else none

/-- The count a TAKE asks for: 2, or 1 for every other code (R91). -/
def Frame.takeCount (f : Frame) : Nat := if f.byte 2 = 2 then 2 else 1

/-- The direction a TURN asks for. A code other than OUT or IN is the lane's current direction (R131). -/
def Frame.turnDir (f : Frame) (current : Dir) : Dir :=
  if f.byte 2 = 0 then .outward else if f.byte 2 = 1 then .inward else current

/-- The flag of a lane in a lane mask (R144). -/
def Frame.maskHas (f : Frame) : LaneId → Bool
  | .lane0 => (f.byte 1).getLsbD 0
  | .lane1 => (f.byte 1).getLsbD 1

/-! ### Code lists (R184) -/

/-- The verdicts of a REPLY. -/
inductive Verdict where
  | accepted
  | busy
  | full
  | held
  | stale
  | order
  | duplicate
  | wrongDirection
  | wrongPartner
  | outOfService
  | starting
  | fixed
  | draining
  | sillBlocked
  deriving DecidableEq, Repr

/-- A verdict's code. -/
def verdictCode : Verdict → Byte
  | .accepted => 0
  | .busy => 1
  | .full => 2
  | .held => 3
  | .stale => 4
  | .order => 5
  | .duplicate => 6
  | .wrongDirection => 7
  | .wrongPartner => 8
  | .outOfService => 9
  | .starting => 10
  | .fixed => 11
  | .draining => 12
  | .sillBlocked => 13

/-- The reasons of an END LAPSED. -/
inductive LapseReason where
  | timeout
  | align
  | held
  | peerLost
  deriving DecidableEq, Repr

/-- A lapse reason's code. -/
def lapseCode : LapseReason → Byte
  | .timeout => 1
  | .align => 2
  | .held => 3
  | .peerLost => 4

/-- The outcomes of an END, LAPSED with its reason. -/
inductive Ending where
  | done
  | lapsed (reason : LapseReason)
  | aborted
  | stranded
  | faulted
  deriving DecidableEq, Repr

/-- An END outcome's code. -/
def endingCode : Ending → Byte
  | .done => 0
  | .lapsed _ => 1
  | .aborted => 2
  | .stranded => 3
  | .faulted => 4

/-- The outcomes of a turnaround. -/
inductive TurnOutcome where
  | turned
  | declined
  | timeout
  | held
  deriving DecidableEq, Repr

/-- A turnaround outcome's code. -/
def turnCode : TurnOutcome → Byte
  | .turned => 0
  | .declined => 1
  | .timeout => 2
  | .held => 3

/-- A direction's code. -/
def dirCode : Dir → Byte
  | .outward => 0
  | .inward => 1

/-! ### Writing fields -/

/-- The four bytes of a tote id, most significant first. -/
def toteBytes (t : Option ToteId) : List Byte :=
  let x := toteIdCode t
  [x.extractLsb' 24 8, x.extractLsb' 16 8, x.extractLsb' 8 8, x.extractLsb' 0 8]

/-- The two bytes of a word, most significant first. -/
def wordBytes (x : BitVec 16) : List Byte := [x.extractLsb' 8 8, x.extractLsb' 0 8]

/-- One bit at its place in a byte. -/
def flagAt (b : Bool) (k : Nat) : Byte := if b then 1#8 <<< k else 0#8

/-- A lane/end byte (R184): bit 0 the lane, bit 1 the end. -/
def laneEndByte (i : LaneId) (e : LaneEnd) : Byte := flagAt (laneBit i) 0 ||| flagAt (e == .shuttleEnd) 1

/-- The class of a frame that names an end (R179): the L-end is class 1, the S-end class 2. -/
def endClass : LaneEnd → BitVec 3
  | .liftEnd => 1
  | .shuttleEnd => 2

end Sys2Proof.Machine
end

