-- ==== Sys2Proof/Machine/Ops.lean ====
section
/-! DEFINITION. The named operations over lanes, positions, zones, eyes, queues and the presence table, and the frames the
3240 sends. -/

namespace Sys2Proof.Machine

open Sys2Proof

/-! ### Lanes of the state -/

/-- A lane. -/
def State.lane (s : State) : LaneId → Lane
  | .lane0 => s.lane0
  | .lane1 => s.lane1

/-- The state with one lane replaced. -/
def State.setLane (s : State) (i : LaneId) (l : Lane) : State :=
  match i with
  | .lane0 => { s with lane0 := l }
  | .lane1 => { s with lane1 := l }

/-- The state with one lane changed. -/
def State.modLane (s : State) (i : LaneId) (f : Lane → Lane) : State := s.setLane i (f (s.lane i))

/-- The settings of a lane. -/
def State.conf (s : State) : LaneId → LaneSettings
  | .lane0 => s.settings.lane0
  | .lane1 => s.settings.lane1

/-- The node is LISTENING or RUNNING. -/
def State.active (s : State) : Bool := s.node == .listening || s.node == .running

/-- The other lane. -/
def otherLane : LaneId → LaneId
  | .lane0 => .lane1
  | .lane1 => .lane0

/-- Both lanes. -/
def bothLanes : List LaneId := [.lane0, .lane1]

/-- Whether the LANES strap fits a lane (R1). -/
def strapFits (p : Straps) : LaneId → Bool
  | .lane0 => true
  | .lane1 => p.twoLanes

/-! ### Either order -/

/-- One of the actions is taken, the free choice's where there are several (log entry 6): those left, and the state. -/
def takeOne (actions : List (State → State)) (s : State) : List (State → State) × State :=
  match actions with
  | [] => ([], s)
  | [f] => ([], f s)
  | f :: g :: rest =>
    let all := f :: g :: rest
    let k := freeChoice s.choices % all.length
    (all.eraseIdx k, (all.getD k id) { s with choices := s.choices + 1 })

/-- Runs the actions in an order the manual leaves to the world (log entry 6). `fuel` is the number of actions. -/
def runFreely : Nat → List (State → State) → State → State
  | 0, _, s => s
  | fuel + 1, actions, s =>
    match takeOne actions s with
    | (rest, t) => runFreely fuel rest t

/-- The actions in either order, each once. -/
def inEitherOrder (actions : List (State → State)) (s : State) : State := runFreely actions.length actions s

/-! ### Directions, positions and zones -/

/-- The position totes enter at (R2). -/
def Lane.entryPos (l : Lane) : Nat := if l.dir = .outward then 0 else l.n - 1

/-- The position totes leave from (R2). -/
def Lane.exitPos (l : Lane) : Nat := if l.dir = .outward then l.n - 1 else 0

/-- The flow command of a direction (R2). -/
def flowOf : Dir → Drive
  | .outward => .forward
  | .inward => .reverse

/-- The next position toward the exit (R2). Not asked of the exit position. -/
def Lane.nextPos (l : Lane) (p : Nat) : Nat := if l.dir = .outward then p + 1 else p - 1

/-- A lane that takes exits and runs moves: RUNNING or DRAINING. -/
def Lane.flowing (l : Lane) : Bool := l.state == .running || l.state == .draining

/-- The lane with a zone's drive set. -/
def Lane.setZone (l : Lane) (k : Nat) (d : Drive) : Lane := { l with zones := l.zones.setIfInBounds k d }

/-- The lane with every zone at STOP. -/
def Lane.stopZones (l : Lane) : Lane := { l with zones := Vector.replicate 4 .stop }

/-- R33: the level of a zone's forward output: high for FORWARD alone. -/
def Drive.forwardOutput : Drive → Bool
  | .forward => true
  | .stop | .reverse => false

/-- R33: the level of a zone's reverse output: high for REVERSE alone. -/
def Drive.reverseOutput : Drive → Bool
  | .reverse => true
  | .stop | .forward => false

/-- R33: the levels of the forward and the reverse output of each zone of a lane. -/
def Lane.outputs (l : Lane) : Vector (Bool × Bool) 4 :=
  eachOf (fun _ d => (d.forwardOutput, d.reverseOutput)) l.zones

/-- Whether any zone is driven (R34). -/
def Lane.driven (l : Lane) : Bool := l.zones.toList.any (· != .stop)

/-! ### Inputs and their debounced states (R27, R32) -/

/-- The place of an input in the sensing unit's list. -/
def inputIndex : InputId → Fin 7
  | .stop k => ⟨k.val, by omega⟩
  | .sSill => 4
  | .lSill => 5
  | .aligned => 6

/-- Every input of a lane. -/
def allInputs : List InputId := [.stop 0, .stop 1, .stop 2, .stop 3, .sSill, .lSill, .aligned]

/-- An input of a lane. -/
def Lane.input (l : Lane) (e : InputId) : Input := l.sensing.inputs[inputIndex e]

/-- The lane with an input replaced. -/
def Lane.setInput (l : Lane) (e : InputId) (x : Input) : Lane :=
  { l with sensing := { l.sensing with inputs := l.sensing.inputs.set (inputIndex e) x } }

/-- R27: whether the sensing unit watches an input: all of a fitted lane but the stop eyes beyond its positions. -/
def Lane.watches (l : Lane) (e : InputId) : Bool :=
  l.state != .disabled &&
    match e with
    | .stop k => decide (k.val < l.n)
    | .sSill | .lSill | .aligned => true

/-- Whether an eye's debounced state is BLOCKED (R32). -/
def Lane.blocked (l : Lane) (e : InputId) : Bool := (l.input e).debounced == some false

/-- Whether the stop eye of a position is BLOCKED. -/
def Lane.stopBlocked (l : Lane) (k : Nat) : Bool := if h : k < 4 then l.blocked (.stop ⟨k, h⟩) else false

/-- Whether the carriage-aligned input's debounced state is ACTIVE. -/
def Lane.alignedActive (l : Lane) : Bool := (l.input .aligned).debounced == some true

/-- The sill eye of an end. -/
def sillOf : LaneEnd → InputId
  | .liftEnd => .lSill
  | .shuttleEnd => .sSill

/-- The sill eye of the lane's entry end (R22). -/
def Lane.entrySill (l : Lane) : InputId := if l.dir = .outward then .sSill else .lSill

/-! ### The lane queue and who uses a position (R8, R11) -/

/-- The record at a position. -/
def Lane.recordAt (l : Lane) (k : Nat) : Option Tote := l.queue.find? (·.pos == k)

/-- The lane with each record of its queue changed. -/
def Lane.mapQueue (l : Lane) (f : Tote → Tote) : Lane := { l with queue := l.queue.map f }

/-- The shuttle-end engine is RESERVED or TRANSFER. -/
def Lane.sBusy (l : Lane) : Bool := l.sEnd.state == .reserved || l.sEnd.state == .transfer

/-- The lift-end engine is RESERVED or TRANSFER. -/
def Lane.lBusy (l : Lane) : Bool := l.lEnd.state == .reserved || l.lEnd.state == .transfer

/-- Both ends are IDLE. -/
def Lane.endsIdle (l : Lane) : Bool := l.sEnd.state == .idle && l.lEnd.state == .idle

/-- The granted count of a lift-end handover (R83). -/
def LiftHand.count (h : LiftHand) : Nat := if h.second.isSome then 2 else 1

/-- The lift-end engine holds a take of count 2. -/
def Lane.doubleTake (l : Lane) : Bool :=
  match l.lEnd.hand with
  | some h => h.kind == .take && h.second.isSome
  | none => false

/-- Position in use by the shuttle-end activity (R11). -/
def Lane.usedByShuttle (l : Lane) (k : Nat) : Bool := l.sBusy && k == 0

/-- Position in use by the lift-end activity (R11): n−1, and n−2 for a take of count 2. -/
def Lane.usedByLift (l : Lane) (k : Nat) : Bool := l.lBusy && (k == l.n - 1 || (k == l.n - 2 && l.doubleTake))

/-- Position in use by the move in progress (R11). -/
def Lane.usedByMove (l : Lane) (k : Nat) : Bool :=
  match l.move with
  | some m => m.src == k || m.dst == k
  | none => false

/-- R11: a position is free when it is neither occupied, nor reserved, nor in use. -/
def Lane.free (l : Lane) (k : Nat) : Bool :=
  (l.recordAt k).isNone && !l.usedByShuttle k && !l.usedByLift k && !l.usedByMove k

/-- A record made SEATED. -/
def Tote.seat (t : Tote) : Tote := { t with state := .seated }

/-- A record whose offer is dropped returns to SEATED. -/
def Tote.unoffer (t : Tote) : Tote := if t.state = .offered then t.seat else t

/-- A record of a take or fetch restored to SEATED. -/
def Tote.restore (t : Tote) : Tote := if t.state = .leaving then t.seat else t

/-- The lane with the record at a position put in a state. -/
def Lane.mark (l : Lane) (k : Nat) (st : ToteState) : Lane :=
  l.mapQueue fun t => if t.pos = k then { t with state := st } else t

/-- The lane with its record at the head removed. -/
def Lane.dropHead (l : Lane) : Lane := { l with queue := l.queue.drop 1 }

/-- The tote ids held by the records of both lanes (R9). -/
def State.holdsId (s : State) (id : Option ToteId) : Bool :=
  id.isSome && (s.lane0.queue ++ s.lane1.queue).any (·.id == id)

/-- The lane with a fresh shuttle-end engine, IDLE (R62). -/
def Lane.sIdle (l : Lane) : Lane := { l with sEnd := .initial }

/-- The lane with a fresh lift-end engine, IDLE (R83). Its alignment flags are clear (log entry 24). -/
def Lane.lIdle (l : Lane) : Lane := { l with lEnd := .initial }

/-- R112: the tracker stops. Its count, offsets and mode keep their values. -/
def Tracker.stop (t : Tracker) : Tracker :=
  { t with running := false, active := none, span := false, stall := none, transfer := none }

/-- The lane with its tracker stopped. -/
def Lane.stopTracker (l : Lane) : Lane := { l with tracker := l.tracker.stop }

/-! ### Node ids and the presence table (R152) -/

/-- The node's own id: 16 plus the own level (R187). -/
def State.ownId (s : State) : NodeId := 16#7 + s.straps.level.setWidth 7

/-- The own level as a byte. -/
def State.levelByte (s : State) : Byte := s.straps.level.setWidth 8

/-- The level's shuttle: 64 plus the own level. -/
def State.shuttleId (s : State) : NodeId := 64#7 + s.straps.level.setWidth 7

/-- A lane's lift. -/
def liftId : LaneId → NodeId
  | .lane0 => 1
  | .lane1 => 2

/-- A lane's lift as a tracked peer. -/
def liftPeer : LaneId → PeerId
  | .lane0 => .liftA
  | .lane1 => .liftB

/-- A partner of a lane as a tracked peer. -/
def partnerPeer (i : LaneId) : Partner → PeerId
  | .lift => liftPeer i
  | .shuttle => .shuttle

/-- The partner that did not ask (R130). -/
def Partner.other : Partner → Partner
  | .lift => .shuttle
  | .shuttle => .lift

/-- The place of a peer in the presence table. -/
def peerIndex : PeerId → Fin 7
  | .liftA => 0
  | .liftB => 1
  | .shuttle => 2
  | .front4 => 3
  | .front5 => 4
  | .front6 => 5
  | .front7 => 6

/-- A presence entry. -/
def State.peer (s : State) (p : PeerId) : Peer := s.peers[peerIndex p]

/-- The state with a presence entry replaced. -/
def State.setPeer (s : State) (p : PeerId) (x : Peer) : State := { s with peers := s.peers.set (peerIndex p) x }

/-- A peer's node id. -/
def State.peerId (s : State) : PeerId → NodeId
  | .liftA => 1
  | .liftB => 2
  | .shuttle => s.shuttleId
  | .front4 => 4
  | .front5 => 5
  | .front6 => 6
  | .front7 => 7

/-- The tracked peer of a source id (R153). -/
def State.peerOf (s : State) (src : NodeId) : Option PeerId :=
  [.liftA, .liftB, .shuttle, .front4, .front5, .front6, .front7].find? fun p => s.peerId p == src

/-- R152: a partner is available when its entry is PRESENT and in service. -/
def Peer.available (p : Peer) : Bool := p.state == .present && p.inService

/-- Whether a partner is available (R152). -/
def State.available (s : State) (p : PeerId) : Bool := (s.peer p).available

/-! ### Holds (R143) -/

/-- R143: the aisle hold is set while the holder set is not empty or the overflow flag is set. -/
def State.aisleHold (s : State) : Bool := !s.holders.isEmpty || s.overflow

/-- R149: what a lane's effective hold follows. -/
def State.holdNow (s : State) (i : LaneId) : Bool := (s.lane i).laneHold || s.levelHold || s.aisleHold

/-! ### Frames the 3240 sends (R184) -/

/-- A frame of the node's own. -/
def State.frame (s : State) (cls : BitVec 3) (k : FrameKind) (payload : List Byte) : Frame :=
  { cls := cls, src := s.ownId, code := kindCode k, payload := payload }

/-- The slot of a lift-end offer. -/
inductive Slot where
  | head
  | second
  deriving DecidableEq, Repr

/-- OFFER (R184): a GROUPED record carries its group and seq, any other their absent codes. -/
def State.offerFrame (s : State) (i : LaneId) (e : LaneEnd) (slot : Slot) (late : Bool) (t : Tote) : Frame :=
  let lenBit : BitVec 16 := if t.len = .long then 0x8000 else 0
  let (group, seq) : Byte × BitVec 16 :=
    match t.kind with
    | .grouped g q => (g, q.setWidth 16)
    | .loose | .inbound => (0, 0)
  s.frame (endClass e) .offer
    ([s.levelByte, laneEndByte i e ||| flagAt (slot == .second) 2 ||| flagAt late 3]
      ++ toteBytes t.id ++ [group] ++ wordBytes (seq ||| lenBit))

/-- WITHDRAW (R184). -/
def State.withdrawFrame (s : State) (i : LaneId) (e : LaneEnd) (slot : Slot) (id : Option ToteId) : Frame :=
  s.frame (endClass e) .withdraw ([s.levelByte, laneEndByte i e ||| flagAt (slot == .second) 2] ++ toteBytes id)

/-- REPLY (R184). -/
def State.replyFrame (s : State) (i : LaneId) (e : LaneEnd) (request : FrameKind) (v : Verdict) (count : Nat)
    (id : Option ToteId) : Frame :=
  s.frame (endClass e) .reply
    ([s.levelByte, laneEndByte i e, (kindCode request).setWidth 8, verdictCode v, BitVec.ofNat 8 count]
      ++ toteBytes id)

/-- END (R184). Byte 3 is the reason of a LAPSED and otherwise the count. -/
def State.endFrame (s : State) (i : LaneId) (e : LaneEnd) (o : Ending) (count : Nat) (id1 id2 : Option ToteId) :
    Frame :=
  let byte3 : Byte :=
    match o with
    | .lapsed r => lapseCode r
    | .done | .aborted | .stranded | .faulted => BitVec.ofNat 8 count
  s.frame (endClass e) .ended
    ([s.levelByte, laneEndByte i e, endingCode o, byte3] ++ toteBytes id1 ++ toteBytes id2)

/-- A lane byte. -/
def laneByte (i : LaneId) : Byte := flagAt (laneBit i) 0

/-- GO (R184). -/
def State.goFrame (s : State) (i : LaneId) (k : Transfer) (count : Nat) : Frame :=
  s.frame 1 .go [s.levelByte, laneByte i, if k = .take then 0 else 1, BitVec.ofNat 8 count]

/-- PROPOSE (R184). -/
def State.proposeFrame (s : State) (i : LaneId) (d : Dir) : Frame :=
  s.frame 2 .propose [s.levelByte, laneByte i, dirCode d]

/-- TURNED (R184). -/
def State.turnedFrame (s : State) (i : LaneId) (d : Dir) (o : TurnOutcome) : Frame :=
  s.frame 2 .turned [s.levelByte, laneByte i, dirCode d, turnCode o]

/-- The tote ids of a shuttle-end handover. -/
def ShuttleHand.id : ShuttleHand → Option ToteId
  | .put id _ _ => id
  | .fetch id _ => id

/-- R65: the END of a shuttle-end handover. -/
def State.shuttleEndFrame (s : State) (i : LaneId) (o : Ending) (h : ShuttleHand) : Frame :=
  s.endFrame i .shuttleEnd o 1 h.id none

/-- R90: the count field of a lift-end END. -/
def LiftHand.endCount (h : LiftHand) (o : Ending) : Nat :=
  match h.kind, o with
  | .give, _ => 1
  | .take, .done => h.count
  | .take, _ => if h.firstGone then 1 else 0

/-- R90: the END of a lift-end handover. -/
def State.liftEndFrame (s : State) (i : LaneId) (o : Ending) (h : LiftHand) : Frame :=
  s.endFrame i .liftEnd o (h.endCount o) h.first.id (h.second.bind (·.id))

end Sys2Proof.Machine
end

