-- ==== Sys2Proof/Machine/Faults.lean ====
section
/-! DEFINITION. The fault log and the transmit queues: an occurrence (R161-R166), appending a frame (R174), raising a fault
and the order the fault log takes occurrences in (R163), and FAULT CLEAR and FAULT QUERY's reports (R167-R169, R185). -/

namespace Sys2Proof.Machine

open Sys2Proof

/-! ### Kinds (R160) -/

/-- A kind's number less one: its place in the log. -/
def faultIndex : FaultKind → Fin 30
  | .moveTimeout => 0
  | .entryTimeout => 1
  | .phantom => 2
  | .sillBlocked => 3
  | .overload => 4
  | .driveStuck => 5
  | .stall => 6
  | .edgeEarly => 7
  | .edgeLate => 8
  | .length => 9
  | .runout => 10
  | .transferTime => 11
  | .stranded => 12
  | .noLoad => 13
  | .encoderLost => 14
  | .lostTote => 15
  | .seqLate => 16
  | .seqDuplicate => 17
  | .seqRange => 18
  | .groupUnknown => 19
  | .groupTableFull => 20
  | .peerLost => 21
  | .holderOverflow => 22
  | .configDefaulted => 23
  | .rxCrc => 24
  | .rxMalformed => 25
  | .rxOverflow => 26
  | .txOverflow => 27
  | .txFail => 28
  | .access => 29

/-- A kind's number, 1 to 30. -/
def faultNumber (k : FaultKind) : Nat := (faultIndex k).val + 1

/-- A kind's class: 1 to 13 are lane faults, 14 to 24 advisories, 25 to 30 link faults. -/
def faultClass (k : FaultKind) : FaultClass :=
  if faultNumber k ≤ 13 then .lane else if faultNumber k ≤ 24 then .advisory else .link

/-- A class's code in FAULT NOTICE (R184). -/
def faultClassCode : FaultClass → Byte
  | .lane => 0
  | .advisory => 1
  | .link => 2

/-- A lane's code where the lane may be none (R184). -/
def laneCode : Option LaneId → Byte
  | some .lane0 => 0
  | some .lane1 => 1
  | none => 255

/-! ### Occurrences -/

/-- The log of a kind. -/
def FaultLog.kind (g : FaultLog) (k : FaultKind) : KindLog := g.kinds[faultIndex k]

/-- R163: an occurrence finds its kind's status clear and the kind unmasked, so a FAULT NOTICE is due. -/
def State.noticeDue (s : State) (o : Occurrence) : Bool := !(s.log.kind o.kind).status && !(s.log.kind o.kind).masked

/-- R163 steps 1 and 2: the count is incremented, saturating at 255, and the status is set. -/
def countOccurrence (k : KindLog) : KindLog := { k with status := true, count := min 255 (k.count + 1) }

/-- R165: an unmasked occurrence fills the first-fault record, or sets its MULTIPLE flag. -/
def fillFirst (o : Occurrence) (now : BitVec 32) (first : Option FirstFault) : FirstFault :=
  match first with
  | none => { occurrence := o, time := now, multiple := false }
  | some r => { r with multiple := true }

/-- R163 steps 1 to 3, and step 4's flag: an escalating lane fault sets the level hold (R146). The change of effective
hold it causes is announced by the hold and presence unit (`holdsJoin`, log entry 30). -/
def recordOccurrence (o : Occurrence) (s : State) : State :=
  let k := s.log.kind o.kind
  { s with
    log :=
      { kinds := s.log.kinds.set (faultIndex o.kind) (countOccurrence k)
        first := if k.masked then s.log.first else some (fillFirst o s.timeBase s.log.first) }
    levelHold := s.levelHold || (faultClass o.kind == .lane && k.escalate) }

/-- FAULT NOTICE (R166, R184). -/
def State.noticeFrame (s : State) (o : Occurrence) : Frame :=
  s.frame 5 .faultNotice
    ([BitVec.ofNat 8 (faultNumber o.kind), faultClassCode (faultClass o.kind), laneCode o.lane] ++ toteBytes o.tote)

/-! ### The transmit queues (R174) -/

/-- The capacity of each transmit queue. -/
def txCapacity : Nat := 8

/-- The capacity of the receive queue. -/
def rxCapacity : Nat := 16

/-- The TX_OVERFLOW of a frame that was dropped: lane none, tote id absent, the frame's header and length. -/
def overflowOf (f : Frame) : Occurrence :=
  { kind := .txOverflow, lane := none, tote := none, frame := some f.ref, track := none }

/-- A frame at the tail of the routine queue. -/
def pushRoutine (f : Frame) (s : State) : State := { s with bus := { s.bus with routine := s.bus.routine ++ [f] } }

/-- A frame at the tail of the urgent queue. -/
def pushUrgent (f : Frame) (s : State) : State := { s with bus := { s.bus with urgent := s.bus.urgent ++ [f] } }

/-- The routine queue has room. -/
def State.routineRoom (s : State) : Bool := decide (s.bus.routine.length < txCapacity)

/-- R166: a notice that finds the routine queue full is dropped, and that TX_OVERFLOW is a further occurrence. A notice due
for it finds the queue still full and is dropped too, with TX_OVERFLOW once more, now without a notice. -/
def dropNotice (f : Frame) (s : State) : State :=
  let o := overflowOf f
  let counted := recordOccurrence o s
  if s.noticeDue o then recordOccurrence (overflowOf (s.noticeFrame o)) counted else counted

/-- Appends a FAULT NOTICE, of class 5, to the routine queue (R166, R174). -/
def appendNotice (f : Frame) (s : State) : State := if s.routineRoom then pushRoutine f s else dropNotice f s

/-- The fault log handles an occurrence (R163): its steps, then the notice that is due. -/
def logOccurrence (o : Occurrence) (s : State) : State :=
  let counted := recordOccurrence o s
  if s.noticeDue o then appendNotice (s.noticeFrame o) counted else counted

/-! ### Raising, and the order of the log (R161, R163) -/

/-- A block raises a kind: the occurrence is on its way to the fault log (R161). -/
def raiseOccurrence (b : Block) (o : Occurrence) (s : State) : State :=
  { s with unlogged := s.unlogged ++ [{ block := b, occurrence := o }] }

/-- Appends a frame to its queue: classes 0 to 3 are urgent, the others routine. A frame that finds its queue full is
dropped, and the bus link raises TX_OVERFLOW (R174). -/
def appendFrame (f : Frame) (s : State) : State :=
  if f.cls.toNat ≤ 3 then
    if s.bus.urgent.length < txCapacity then pushUrgent f s else raiseOccurrence .busLink (overflowOf f) s
  else if s.routineRoom then pushRoutine f s else raiseOccurrence .busLink (overflowOf f) s

/-- R163: the occurrences the fault log may take next, the earliest of each block, each with those that then still wait. -/
def takings : List Handed → List (Handed × List Handed)
  | [] => []
  | h :: rest => (h, rest) :: ((takings rest).filter (·.1.block != h.block)).map fun p => (p.1, h :: p.2)

/-- The fault log takes one occurrence. Occurrences of one block come in the order it raised them, and those of different
blocks in either order, which is a free choice (R163, log entry 7). -/
def logNext (s : State) : State :=
  match takings s.unlogged with
  | [] => s
  | [p] => logOccurrence p.1.occurrence { s with unlogged := p.2 }
  | p :: q :: rest =>
    let x := (p :: q :: rest).getD (freeChoice s.choices % (rest.length + 2)) p
    logOccurrence x.1.occurrence { s with unlogged := x.2, choices := s.choices + 1 }

/-- The fault log takes occurrences, at most `fuel` of them, while a test of the state holds. -/
def logWhile (test : State → Bool) : Nat → State → State
  | 0, s => s
  | fuel + 1, s => if test s then logWhile test fuel (logNext s) else s

/-- The fault log takes every occurrence that waits. -/
def logAll (s : State) : State := logWhile (fun _ => true) s.unlogged.length s

/-- R163 step 4: a waiting lane fault will set a level hold that is not set yet. -/
def State.escalationWaits (s : State) : Bool :=
  !s.levelHold
    && s.unlogged.any fun h => faultClass h.occurrence.kind == .lane && (s.log.kind h.occurrence.kind).escalate

/-- The fault log takes occurrences until the escalations that wait among them are handed over (R163 step 4). -/
def logEscalations (s : State) : State := logWhile State.escalationWaits s.unlogged.length s

/-- The tote a target belongs to: tote 2 for T3 and T4. -/
def Target.isSecond : Target → Bool
  | .t3 | .t4 => true
  | .t1 | .t2 | .g1 | .g2 | .g3 => false

/-- R161, R128: the tracker data of a lane whose tracker is running. -/
def Tracker.data (t : Tracker) : Option TrackData :=
  if t.running then
    some { count := t.count, offset := t.active.bind fun g => if g.isSecond then t.d2 else t.d1 }
  else none

/-- An occurrence that names a lane, filled as it is raised (R161). -/
def State.laneOccurrence (s : State) (k : FaultKind) (i : LaneId) (tote : Option ToteId) : Occurrence :=
  { kind := k, lane := some i, tote := tote, frame := s.cause, track := (s.lane i).tracker.data }

/-- An occurrence that names no lane. -/
def State.nodeOccurrence (s : State) (k : FaultKind) (tote : Option ToteId) : Occurrence :=
  { kind := k, lane := none, tote := tote, frame := s.cause, track := none }

/-- A link fault of a received or sent frame (R161). -/
def linkOccurrence (k : FaultKind) (ref : FrameRef) : Occurrence :=
  { kind := k, lane := none, tote := none, frame := some ref, track := none }

/-- The bus link raises a link fault of a received or sent frame. -/
def raiseLinkFault (k : FaultKind) (ref : FrameRef) (s : State) : State := raiseOccurrence .busLink (linkOccurrence k ref) s

/-! ### FAULT CLEAR and FAULT QUERY (R167-R169) -/

/-- R169: every status clear, every count 0, the first-fault record empty. -/
def clearLog (g : FaultLog) : FaultLog :=
  { kinds := eachOf (fun _ k => { k with status := false, count := 0 }) g.kinds, first := none }

/-- The counts of kinds `from` to `upto`, as bytes. -/
def countBytes (g : FaultLog) (first upto : Nat) : List Byte :=
  ((g.kinds.toList.drop (first - 1)).take (upto + 1 - first)).map fun k => BitVec.ofNat 8 k.count

/-- The status field: bit k−1 for kind k (R185). -/
def statusWord (g : FaultLog) : BitVec 32 :=
  g.kinds.toList.foldr (fun k acc => (acc <<< 1) ||| (if k.status then 1#32 else 0#32)) 0#32

/-- The four bytes of a 32-bit field. -/
def longBytes (x : BitVec 32) : List Byte := toteBytes (some x)

/-- Selector 1's bytes: part A of the first-fault record (R167, R185). -/
def firstPartA (g : FaultLog) : List Byte :=
  match g.first with
  | none => [0, 255] ++ toteBytes none ++ longBytes 0
  | some r =>
    [BitVec.ofNat 8 (faultNumber r.occurrence.kind), laneCode r.occurrence.lane]
      ++ toteBytes r.occurrence.tote ++ longBytes r.time

/-- Selector 2's bytes: part B of the first-fault record (R167, R185). An absent field carries zeros. -/
def firstPartB (g : FaultLog) : List Byte :=
  match g.first with
  | none => [0, 0, 0, 0, 0, 0, 0, 0]
  | some r =>
    let o := r.occurrence
    let offset := o.track.bind (·.offset)
    let presence :=
      flagAt o.frame.isSome 0 ||| flagAt o.track.isSome 1 ||| flagAt offset.isSome 2 ||| flagAt r.multiple 3
    let header : List Byte :=
      match o.frame with
      | none => [0, 0, 0]
      | some h => wordBytes (headerWord h.cls h.src h.code) ++ [h.len.setWidth 8]
    let count : Int := (o.track.map (·.count)).getD 0
    [presence] ++ header ++ wordBytes (BitVec.ofInt 16 count) ++ wordBytes (BitVec.ofInt 16 (offset.getD 0))

/-- The selector byte (R185). -/
def selectorByte (selector : Nat) (part2 : Bool) : Byte := BitVec.ofNat 8 selector ||| flagAt part2 7

/-- The payloads of the FAULT REPORT frames that answer a selector, in order (R167, R168, R185). -/
def reportPayloads (g : FaultLog) (selector : Nat) : List (List Byte) :=
  match selector with
  | 0 => [selectorByte 0 false :: longBytes (statusWord g)]
  | 1 => [selectorByte 1 false :: firstPartA g]
  | 2 => [selectorByte 2 false :: firstPartB g]
  | 3 => [selectorByte 3 false :: countBytes g 1 7, selectorByte 3 true :: countBytes g 8 13]
  | 4 => [selectorByte 4 false :: countBytes g 14 24, selectorByte 4 true :: countBytes g 25 30]
  | _ => [[]]

/-- R167, R168: the reports are built from the log as it stands and appended in order. -/
def answerQuery (selector : Nat) (s : State) : State :=
  (reportPayloads s.log selector).foldl (fun t p => appendFrame (s.frame 5 .faultReport p) t) s

end Sys2Proof.Machine
end

