-- ==== Sys2Proof/Machine/Groups.lean ====
section
/-! DEFINITION. The group table (Chapter 3): sequence arithmetic, the update steps of PASSED, release classes, entry
removal and the advisories of a classification. -/

namespace Sys2Proof.Machine

open Sys2Proof

/-! ### Sequence arithmetic (R44) -/

/-- The forward distance D(x, y) = (y − x) mod 4096. -/
def forwardDist (x y : Seq) : Nat := (y - x).toNat

/-! ### Entries (R42, R43) -/

/-- The capacity of the group table. -/
def groupCapacity : Nat := 16

/-- The entry of a group. -/
def State.entryOf (s : State) (g : GroupNo) : Option GroupEntry := s.groups.find? (·.group == g)

/-- The table with the entry of its group replaced. -/
def State.putEntry (s : State) (e : GroupEntry) : State :=
  { s with groups := s.groups.map fun x => if x.group = e.group then e else x }

/-- The table with an entry added. -/
def State.addEntry (s : State) (e : GroupEntry) : State := { s with groups := s.groups ++ [e] }

/-- R51: a record carries a group when it is GROUPED and its group field names it, whatever its state. -/
def Tote.carries (t : Tote) (g : GroupNo) : Bool :=
  match t.kind with
  | .grouped h _ => h == g
  | .loose | .inbound => false

/-- Some record of either lane carries the group. -/
def State.carried (s : State) (g : GroupNo) : Bool := (s.lane0.queue ++ s.lane1.queue).any (·.carries g)

/-- R51: the removal check. A CLOSED entry goes once no record of either lane carries its group. -/
def removalCheck (g : GroupNo) (s : State) : State :=
  { s with groups := s.groups.filter fun e => !(e.group == g && e.state == .closed && !s.carried g) }

/-- R10, R51: the removal of a record is announced to the group table. -/
def announceRemoval (t : Tote) (s : State) : State :=
  match t.kind with
  | .grouped g _ => removalCheck g s
  | .loose | .inbound => s

/-- Removes the records of a lane that a test names, and announces each removal. -/
def removeRecords (i : LaneId) (p : Tote → Bool) (s : State) : State :=
  let gone := (s.lane i).queue.filter p
  let kept := s.modLane i fun l => { l with queue := l.queue.filter fun t => !p t }
  gone.foldl (fun t r => announceRemoval r t) kept

/-! ### Release classes (R57, R58) -/

/-- R57: the class of a record against the table's entries. -/
def classify (entry : GroupNo → Option GroupEntry) (t : Tote) : ReleaseClass :=
  match t.kind, t.id with
  | .grouped g q, some _ =>
    match entry g with
    | none => .unknownGroup
    | some e =>
      match e.state with
      | .closed => .loose
      | .opened =>
        let d := forwardDist e.cursor q
        if 2048 ≤ d then .late
        else if d < e.window then (if e.mask.getLsbD d then .duplicate else .inWindow)
        else .ahead
  | .grouped _ _, none => .loose
  | .loose, _ => .loose
  | .inbound, _ => .loose

/-- R57: the classes that allow an offer. -/
def eligibleClass : ReleaseClass → Bool
  | .inWindow | .late | .duplicate | .loose => true
  | .ahead | .unknownGroup => false

/-- An OUT-lane record whose class allows an offer. -/
def Tote.eligible (t : Tote) : Bool :=
  match t.cls with
  | some c => eligibleClass c
  | none => false

/-- R60: the late flag of an offer. -/
def Tote.lateFlag (t : Tote) : Bool := t.cls == some .late || t.cls == some .duplicate

/-- R58: the advisory a class raises. -/
def advisoryOf : ReleaseClass → Option FaultKind
  | .late => some .seqLate
  | .duplicate => some .seqDuplicate
  | .unknownGroup => some .groupUnknown
  | .inWindow | .ahead | .loose => none

/-- R58: the advisory a classification raises for a record, none when one was raised before. -/
def Tote.advisory (t : Tote) (c : ReleaseClass) : Option FaultKind := if t.advised then none else advisoryOf c

/-- A record with its class written, its advisory-raised flag set when the class raises an advisory (R58). -/
def Tote.classed (t : Tote) (c : ReleaseClass) : Tote :=
  { t with cls := some c, advised := t.advised || (advisoryOf c).isSome }

/-! ### GROUP OPEN (R46) -/

/-- R46: a window of 0 is 1, and a window above 32 is 32. -/
def readWindow (w : Byte) : Nat := clamp 1 32 w.toNat

/-- R46: a count of 0 gives no last seq, any other last = first + count − 1 mod 4096. -/
def readLast (first : Seq) (count : BitVec 12) : Option Seq := if count = 0 then none else some (first + count - 1)

/-- The entry a GROUP OPEN makes or re-opens (R47, R48). -/
def openedEntry (f : Frame) : GroupEntry :=
  { group := f.byte 0, state := .opened, cursor := f.seq 1, window := readWindow (f.byte 3), mask := 0
    last := readLast (f.seq 1) (f.seq 4) }

/-! ### PASSED (R53-R56) -/

/-- R42: the cursor moved k steps forward and the mask shifted down by k. -/
def GroupEntry.shift (e : GroupEntry) (k : Nat) : GroupEntry :=
  { e with cursor := e.cursor + BitVec.ofNat 12 k, mask := e.mask >>> k }

/-- R53: the merge cursor moves the view forward and never backward. -/
def mergeStep (m : Seq) (e : GroupEntry) : GroupEntry :=
  let dm := forwardDist e.cursor m
  if 1 ≤ dm ∧ dm ≤ 2047 then e.shift dm else e

/-- R54: the mark of a passage within the mask's reach. -/
def markStep (q : Seq) (e : GroupEntry) : GroupEntry :=
  let d := forwardDist e.cursor q
  if d ≤ 31 then { e with mask := e.mask ||| (1#32 <<< d) } else e

/-- R54: a passage ahead of the mask's reach raises SEQ_RANGE. -/
def markOutOfRange (q : Seq) (e : GroupEntry) : Bool :=
  let d := forwardDist e.cursor q
  32 ≤ d && d ≤ 2047

/-- R55: while flag 0 is set, the mask is shifted down by 1 and the cursor moves one step, at most `fuel` times. -/
def advanceStep : Nat → GroupEntry → GroupEntry
  | 0, e => e
  | fuel + 1, e => if e.mask.getLsbD 0 then advanceStep fuel (e.shift 1) else e

/-- R56: an entry whose cursor stands one step beyond its last seq becomes CLOSED. -/
def closeStep (e : GroupEntry) : GroupEntry :=
  match e.last with
  | some l => if forwardDist l e.cursor = 1 then { e with state := .closed } else e
  | none => e

/-- R53 to R56 in order, for PASSED with seq `q` and merge cursor `m`. -/
def passedEntry (q m : Seq) (e : GroupEntry) : GroupEntry :=
  closeStep (advanceStep 32 (markStep q (mergeStep m e)))

/-- R52: the entry a PASSED learns, before its update steps. -/
def learnedEntry (g : GroupNo) (m : Seq) (window : Nat) : GroupEntry :=
  { group := g, state := .opened, cursor := m, window := window, mask := 0, last := none }

/-! ### Reclassification (R59) -/

/-- Whether a group frame's reclassification reaches a record: one of an OUT lane that carries the group. -/
def reclassified (l : Lane) (g : GroupNo) (t : Tote) : Bool := l.dir == .outward && t.carries g

/-- A lane with the records of a group classed again. -/
def reclassLane (entry : GroupNo → Option GroupEntry) (g : GroupNo) (l : Lane) : Lane :=
  l.mapQueue fun t => if reclassified l g t then t.classed (classify entry t) else t

/-- The advisories a reclassification of a lane raises (R58). -/
def reclassAdvisories (s : State) (g : GroupNo) (i : LaneId) : List Occurrence :=
  let l := s.lane i
  (l.queue.filter (reclassified l g)).filterMap fun t =>
    (t.advisory (classify s.entryOf t)).map fun k => s.laneOccurrence k i t.id

/-- R59: the class of a record created in an OUT lane, with the advisory it raises. A record of an IN lane has no
class. -/
def State.classCreated (s : State) (i : LaneId) (t : Tote) : Tote :=
  if (s.lane i).dir = .outward then t.classed (classify s.entryOf t) else t

/-- A record joins the lane queue at the entry end (R8) and is classed (R6, R59). -/
def createRecord (i : LaneId) (t : Tote) (s : State) : State :=
  let added := s.modLane i fun l => { l with queue := l.queue ++ [s.classCreated i t] }
  if (s.lane i).dir = .outward then
    match t.advisory (classify s.entryOf t) with
    | some k => raiseOccurrence .groupTable (s.laneOccurrence k i t.id) added
    | none => added
  else added

end Sys2Proof.Machine
end

