-- ==== Sys2Proof/Machine/Lanes.lean ====
section
/-! DEFINITION. The lane unit (Chapter 1): entering FAULTED, offers and their withdrawal, the start of a move, and the
turnaround's end and empty test (Chapter 7), which every end engine returns through. -/

namespace Sys2Proof.Machine

open Sys2Proof

/-! ### Entering FAULTED (R22) -/

/-- R104, R105: the spanning record is a take's record nearest the exit that is still LEAVING, or a give's ENTERING
record. -/
def strandFirst (p : Tote → Bool) : List Tote → List Tote
  | [] => []
  | t :: rest => if p t then { t with state := .stranded } :: rest else t :: strandFirst p rest

/-- The lane with the spanning record of its transfer STRANDED. -/
def Lane.strandSpanning (l : Lane) : Lane :=
  match l.lEnd.hand with
  | some h =>
    match h.kind with
    | .take => { l with queue := strandFirst (·.state == .leaving) l.queue }
    | .give => { l with queue := strandFirst (·.state == .entering) l.queue }
  | none => l

/-- R22 step 2 for the L-end, with R105: its END, and the spanning record of an END STRANDED. -/
def faultLiftEnd (i : LaneId) (s : State) : State :=
  let l := s.lane i
  match l.lBusy, l.lEnd.hand with
  | true, some h =>
    if l.tracker.span then (appendFrame (s.liftEndFrame i .stranded h) s).modLane i Lane.strandSpanning
    else appendFrame (s.liftEndFrame i .faulted h) s
  | _, _ => s

/-- R22 step 2 for the S-end. -/
def faultShuttleEnd (i : LaneId) (s : State) : State :=
  let l := s.lane i
  match l.sBusy, l.sEnd.hand with
  | true, some h =>
    appendFrame (s.shuttleEndFrame i (if l.blocked .sSill then .stranded else .faulted) h) s
  | _, _ => s

/-- R22 steps 3 and 4 for one record: OFFERED becomes SEATED, LEAVING and MOVING follow the stop eye of their position,
and ENTERING is STRANDED (or, in `faultDrops`, removed) by the sill of the entry end. -/
def Lane.faultRecord (l : Lane) (t : Tote) : Tote :=
  match t.state with
  | .offered => t.seat
  | .leaving | .moving => if l.stopBlocked t.pos then t.seat else { t with state := .stranded }
  | .entering => if l.blocked l.entrySill then { t with state := .stranded } else t
  | .seated | .stranded => t

/-- R22 step 4: the records removed, ENTERING with the sill of the entry end clear. -/
def Lane.faultDrops (l : Lane) (t : Tote) : Bool := t.state == .entering && !l.blocked l.entrySill

/-- R22 step 5, R141: a turnaround in progress is cancelled with a REPLY to the TURN that was accepted. -/
def cancelTurnaround (i : LaneId) (s : State) : State :=
  match (s.lane i).turnaround with
  | some _ =>
    (appendFrame (s.replyFrame i .shuttleEnd .turn .outOfService 0 none) s).modLane i fun l =>
      { l with turnaround := none }
  | none => s

/-- R22: the lane enters FAULTED, in its seven steps. -/
def enterFaulted (i : LaneId) (s : State) : State :=
  let s1 := s.modLane i fun l => { l.stopZones with move := none, moveTimer := none }
  let s2 := faultShuttleEnd i (faultLiftEnd i s1)
  let s3 := s2.modLane i fun l => l.sIdle.lIdle
  let l := s3.lane i
  let s4 := (removeRecords i l.faultDrops s3).modLane i fun m => m.mapQueue l.faultRecord
  let s5 := cancelTurnaround i s4
  s5.modLane i fun m => { m.stopTracker with state := .faulted }

/-- A block of the lane raises a lane fault (R22, R23, R163): the occurrence is on its way to the fault log, and the lane unit
takes the fault, by R22 unless the lane is FAULTED already. -/
def raiseLaneFault (b : LaneBlock) (i : LaneId) (k : FaultKind) (tote : Option ToteId) (s : State) : State :=
  let raised := raiseOccurrence (.ofLane b i) (s.laneOccurrence k i tote) s
  match (s.lane i).state with
  | .running | .draining | .turning => enterFaulted i raised
  | .faulted | .disabled => raised

/-! ### The start of a move (R13-R15) -/

/-- R13 condition 5: the record a move would carry, the SEATED one nearest the exit whose next position is free. -/
def Lane.moveCandidate (l : Lane) : Option Tote :=
  l.queue.find? fun t => t.state == .seated && t.pos != l.exitPos && l.free (l.nextPos t.pos)

/-- R15: the lane with the move of a record begun, both zones at the flow command. -/
def Lane.beginMove (l : Lane) (t : Tote) (moveTime : Nat) : Lane :=
  let dst := l.nextPos t.pos
  let moving := l.mapQueue fun r => if r.pos = t.pos then { r with state := .moving, pos := dst } else r
  { (moving.setZone t.pos (flowOf l.dir)).setZone dst (flowOf l.dir) with
    move := some { src := t.pos, dst := dst, vacated := false }
    moveTimer := some moveTime }

/-- R13, R14: evaluates the start of a move. -/
def evalMove (i : LaneId) (s : State) : State :=
  let l := s.lane i
  if l.move.isNone && l.flowing && !l.effHold && s.active then
    match l.moveCandidate with
    | some t =>
      if l.stopBlocked (l.nextPos t.pos) then raiseLaneFault .laneUnit i .phantom none s
      else s.setLane i (l.beginMove t (s.conf i).moveTime)
    | none => s
  else s

/-! ### Offers (R73, R85, R86) -/

/-- R85 conditions 4, 6 and 7, less the hold: the lane flows, the node is up and the partner is available. -/
def State.mayOffer (s : State) (i : LaneId) (p : Partner) : Bool :=
  (s.lane i).flowing && s.active && s.available (partnerPeer i p)

/-- R85: evaluates the head offer of a lift-end engine. -/
def evalHead (i : LaneId) (s : State) : State :=
  let l := s.lane i
  match l.lEnd.head, l.recordAt (l.n - 1) with
  | none, some t =>
    if l.dir == .outward && t.state == .seated && t.eligible
        && (l.lEnd.state == .idle || l.lEnd.state == .offering) && s.mayOffer i .lift then
      if l.effHold then s.modLane i fun m => { m with lLatch := true }
      else
        appendFrame (s.offerFrame i .liftEnd .head t.lateFlag t)
          (s.modLane i fun m =>
            { m.mark (l.n - 1) .offered with
              lEnd := { m.lEnd with state := .offering, head := some ⟨t.id⟩ } })
    else s
  | _, _ => s

/-- R86: evaluates the second offer, while a head offer stands. -/
def evalSecond (i : LaneId) (s : State) : State :=
  let l := s.lane i
  match l.lEnd.head, l.lEnd.second, l.recordAt (l.n - 2) with
  | some _, none, some t =>
    if t.state == .seated && t.eligible && s.mayOffer i .lift then
      if l.effHold then s.modLane i fun m => { m with lLatch := true }
      else
        appendFrame (s.offerFrame i .liftEnd .second t.lateFlag t)
          (s.modLane i fun m =>
            { m.mark (l.n - 2) .offered with lEnd := { m.lEnd with second := some ⟨t.id⟩ } })
    else s
  | _, _, _ => s

/-- The lift-end engine evaluates its offers, the head first (R85, R86). -/
def evalLift (i : LaneId) (s : State) : State := evalSecond i (evalHead i s)

/-- R73: the shuttle-end engine evaluates an offer. -/
def evalShuttle (i : LaneId) (s : State) : State :=
  let l := s.lane i
  match l.recordAt 0 with
  | some t =>
    if l.dir == .inward && t.state == .seated && l.sEnd.state == .idle && s.mayOffer i .shuttle then
      if l.effHold then s.modLane i fun m => { m with sLatch := true }
      else
        appendFrame (s.offerFrame i .shuttleEnd .head false t)
          (s.modLane i fun m =>
            { m.mark 0 .offered with sEnd := { m.sEnd with state := .offering, offer := some ⟨t.id⟩ } })
    else s
  | none => s

/-- R10: a record SEATED at the exit or next to it is announced to the end engine at the exit end. The shuttle-end
engine evaluates only for position 0, as R73 lists (log entry 22). -/
def announceSeated (i : LaneId) (k : Nat) (s : State) : State :=
  let l := s.lane i
  match l.dir with
  | .outward => if k = l.n - 1 ∨ k = l.n - 2 then evalLift i s else s
  | .inward => if k = 0 then evalShuttle i s else s

/-! ### Withdrawing offers (R75, R88) -/

/-- R88: the head offer is withdrawn and a standing second with it, the head's WITHDRAW first. -/
def withdrawLift (i : LaneId) (s : State) : State :=
  let l := s.lane i
  match l.lEnd.head with
  | some h =>
    let s1 := appendFrame (s.withdrawFrame i .liftEnd .head h.id) s
    let s2 :=
      match l.lEnd.second with
      | some o => appendFrame (s.withdrawFrame i .liftEnd .second o.id) s1
      | none => s1
    s2.modLane i fun m => (m.mapQueue Tote.unoffer).lIdle
  | none => s

/-- R88: only the second offer is withdrawn, and the engine stays OFFERING. -/
def withdrawSecond (i : LaneId) (s : State) : State :=
  let l := s.lane i
  match l.lEnd.second with
  | some o =>
    (appendFrame (s.withdrawFrame i .liftEnd .second o.id) s).modLane i fun m =>
      { m.mapQueue (fun t => if t.pos = m.n - 2 then t.unoffer else t) with
        lEnd := { m.lEnd with second := none } }
  | none => s

/-- R75: the shuttle-end offer is withdrawn. -/
def withdrawShuttle (i : LaneId) (s : State) : State :=
  match (s.lane i).sEnd.offer with
  | some o =>
    (appendFrame (s.withdrawFrame i .shuttleEnd .head o.id) s).modLane i fun m => (m.mapQueue Tote.unoffer).sIdle
  | none => s

/-! ### The end of a turnaround, and the empty test (R135, R138, R21) -/

/-- The stop eyes of the lane's positions. -/
def Lane.anyStopBlocked (l : Lane) : Bool := (List.range l.n).any l.stopBlocked

/-- R21: the eyes are examined as the lane leaves TURNING. -/
def examineEyes (i : LaneId) (s : State) : State :=
  let l := s.lane i
  if l.blocked .sSill || l.blocked .lSill then raiseLaneFault .laneUnit i .sillBlocked none s
  else if l.anyStopBlocked then raiseLaneFault .laneUnit i .phantom none s
  else s

/-- R138: the turnaround ends, in its six steps. -/
def endTurnaround (i : LaneId) (o : TurnOutcome) (s : State) : State :=
  let l := s.lane i
  match l.turnaround with
  | some t =>
    let dir := if o = .turned then t.asked else l.dir
    let s1 := s.setLane i { l with turnaround := none, dir := dir, state := .running }
    let s2 := if l.state = .turning then examineEyes i s1 else s1
    let s3 := appendFrame (s2.turnedFrame i dir o) s2
    if (s3.lane i).state = .running then evalLift i (evalShuttle i (evalMove i s3)) else s3
  | none => s

/-- R135: the empty test. A DRAINING lane found empty with both ends IDLE enters TURNING, and PROPOSE goes to the other
partner, or the turnaround ends with TIMEOUT where that partner is ABSENT or LOST. It ends so too where the lane is found empty
by the lapse of an end as the hold sets: DESIGN CHOICE (log entry 45) where R139 says HELD. -/
def emptyTest (i : LaneId) (s : State) : State :=
  let l := s.lane i
  match l.turnaround with
  | some t =>
    if l.state == .draining && l.queue.isEmpty && l.endsIdle then
      let s1 := s.setLane i { l with state := .turning, turnaround := some { t with drainTimer := none } }
      match (s.peer (partnerPeer i t.requester.other)).state with
      | .present | .late =>
        (appendFrame (s1.proposeFrame i t.asked) s1).modLane i fun m =>
          { m with turnaround := some { t with drainTimer := none, pending := true, turnTimer := some s.settings.turnTime } }
      | .absent | .lost => endTurnaround i .timeout s1
    else s
  | none => s

/-! ### An end's return to IDLE (R20, R63, R84, log entry 8) -/

/-- R20: the sill is tested as an end returns to IDLE while the lane is RUNNING or DRAINING. -/
def sillTest (i : LaneId) (e : LaneEnd) (s : State) : State :=
  let l := s.lane i
  if l.flowing && l.blocked (sillOf e) then raiseLaneFault .laneUnit i .sillBlocked none s else s

/-- What follows the lift-end engine's return to IDLE (R84, R102). -/
def liftReturned (i : LaneId) (s : State) : State :=
  evalLift i (evalMove i (emptyTest i (sillTest i .liftEnd s)))

/-- What follows the shuttle-end engine's return to IDLE (R63). -/
def shuttleReturned (i : LaneId) (s : State) : State :=
  evalShuttle i (evalMove i (emptyTest i (sillTest i .shuttleEnd s)))

end Sys2Proof.Machine
end

