-- ==== Sys2Proof/Machine/ShuttleEnd.lean ====
section
/-! DEFINITION. The shuttle-end engine (Chapter 4): its endings, its eyes, and its reactions to holds and presence. The
meanings of the put, entry and fetch timers. -/

namespace Sys2Proof.Machine

open Sys2Proof

/-! ### Endings -/

/-- A put that ends without its tote: END, the ENTERING record removed, the engine IDLE (R70, R72, R80, R81). -/
def endPutEmpty (i : LaneId) (o : Ending) (h : ShuttleHand) (s : State) : State :=
  let s1 := appendFrame (s.shuttleEndFrame i o h) s
  let s2 := s1.modLane i fun l => (l.setZone 0 .stop).sIdle
  shuttleReturned i (removeRecords i (·.state == .entering) s2)

/-- A fetch that ends with its record restored (R78, R79). -/
def endFetchRestored (i : LaneId) (o : Ending) (h : ShuttleHand) (s : State) : State :=
  let s1 := appendFrame (s.shuttleEndFrame i o h) s
  shuttleReturned i (s1.modLane i fun l => ((l.setZone 0 .stop).mapQueue Tote.restore).sIdle)

/-- R71: a put is DONE. The record is SEATED at position 0 and announced (R10) once the end has returned. -/
def putDone (i : LaneId) (h : ShuttleHand) (s : State) : State :=
  let s1 := appendFrame (s.shuttleEndFrame i .done h) s
  let s2 := s1.modLane i fun l =>
    ((l.setZone 0 .stop).mapQueue fun t => if t.state = .entering then t.seat else t).sIdle
  let s3 := emptyTest i (sillTest i .shuttleEnd s2)
  evalShuttle i (evalMove i (announceSeated i 0 s3))

/-- R77: a fetch is DONE, and its record leaves the head of the queue. -/
def fetchDone (i : LaneId) (h : ShuttleHand) (s : State) : State :=
  let s1 := appendFrame (s.shuttleEndFrame i .done h) s
  let s2 := s1.modLane i fun l => (l.setZone 0 .stop).sIdle
  shuttleReturned i (removeRecords i (·.state == .leaving) s2)

/-! ### The eyes (R70, R71, R77) -/

/-- R71, R77: the test for completion, made at each edge of the S-sill and of stop eye 0 in TRANSFER. -/
def testCompletion (i : LaneId) (s : State) : State :=
  let l := s.lane i
  match l.sEnd.hand with
  | some (.put id k len) =>
    if l.stopBlocked 0 && !l.blocked .sSill then putDone i (.put id k len) s else s
  | some (.fetch id true) =>
    if !l.stopBlocked 0 && !l.blocked .sSill then fetchDone i (.fetch id true) s else s
  | some (.fetch _ false) | none => s

/-- R77: the S-sill blocking in a fetch sets the sill-passed note. -/
def ShuttleHand.passSill : ShuttleHand → ShuttleHand
  | .put id k len => .put id k len
  | .fetch id _ => .fetch id true

/-- An S-sill edge (R70, R71, R77, R20). -/
def shuttleSillEdge (i : LaneId) (blocks : Bool) (s : State) : State :=
  let l := s.lane i
  match l.sEnd.state with
  | .reserved =>
    if blocks then
      s.setLane i
        { l.setZone 0 .forward with
          sEnd := { l.sEnd with state := .transfer, timer := some (s.conf i).moveTime } }
    else s
  | .transfer =>
    let noted :=
      if blocks then s.setLane i { l with sEnd := { l.sEnd with hand := l.sEnd.hand.map ShuttleHand.passSill } }
      else s
    testCompletion i noted
  | .idle | .offering => if blocks && l.flowing then raiseLaneFault .laneUnit i .sillBlocked none s else s

/-- An edge of stop eye 0 while position 0 is in use by the shuttle end (R70, R71, R77). -/
def shuttleStopEdge (i : LaneId) (blocks : Bool) (s : State) : State :=
  let l := s.lane i
  match l.sEnd.state with
  | .reserved =>
    if blocks then raiseLaneFault .shuttleEnd i .phantom (l.sEnd.hand.bind ShuttleHand.id) s else s
  | .transfer => testCompletion i s
  | .idle | .offering => s

/-! ### Holds and presence (R80, R81) -/

/-- A RESERVED put lapses (R70, R80, R81). -/
def lapseShuttle (i : LaneId) (r : LapseReason) (s : State) : State :=
  let l := s.lane i
  match l.sEnd.state, l.sEnd.hand with
  | .reserved, some h => endPutEmpty i (.lapsed r) h s
  | _, _ => s

/-- R80: the lane's effective hold sets. -/
def shuttleHoldSets (i : LaneId) (s : State) : State :=
  match (s.lane i).sEnd.state with
  | .offering => (withdrawShuttle i s).modLane i fun l => { l with sLatch := true }
  | .reserved => lapseShuttle i .held s
  | .idle | .transfer => s

/-- R150: the lane's effective hold clears. -/
def shuttleHoldClears (i : LaneId) (s : State) : State :=
  if (s.lane i).sLatch then evalShuttle i (s.modLane i fun l => { l with sLatch := false }) else s

/-- R81: the shuttle goes LATE, or out of service. The withdrawn record is SEATED, so a move is evaluated (R13). -/
def shuttleUnavailable (i : LaneId) (s : State) : State :=
  match (s.lane i).sEnd.state with
  | .offering => evalMove i (withdrawShuttle i s)
  | .idle | .reserved | .transfer => s

/-- R81: the shuttle goes LOST. -/
def shuttleLost (i : LaneId) (s : State) : State :=
  match (s.lane i).sEnd.state with
  | .offering => evalMove i (withdrawShuttle i s)
  | .reserved => lapseShuttle i .peerLost s
  | .idle | .transfer => s

/-! ### Window timers -/

/-- R70: the put window expires in RESERVED. -/
def putWindowExpires (i : LaneId) (s : State) : State :=
  match (s.lane i).sEnd.timer with
  | some _ => lapseShuttle i .timeout s
  | none => s

/-- R71: the entry timer expires before a put completes. -/
def entryTimerExpires (i : LaneId) (s : State) : State :=
  let l := s.lane i
  match l.sEnd.state, l.sEnd.hand, l.sEnd.timer with
  | .transfer, some (.put id _ _), some _ => raiseLaneFault .shuttleEnd i .entryTimeout id s
  | _, _, _ => s

/-- R78, R79: a fetch that is interrupted. With the S-sill clear and stop eye 0 blocked it ends with its record restored;
otherwise the tote's place is not known and the lane raises STRANDED. The eyes are the debounced states (R32). An expiry taken
before the sill-clear edge that would complete the fetch finds the S-sill still BLOCKED, which is the table's second line and
END STRANDED, where the text of R78 names the first or third: DESIGN CHOICE (log entry 48). -/
def interruptFetch (i : LaneId) (o : Ending) (id : Option ToteId) (s : State) : State :=
  let l := s.lane i
  if !l.blocked .sSill && l.stopBlocked 0 then endFetchRestored i o (.fetch id true) s
  else raiseLaneFault .shuttleEnd i .stranded id s

/-- R78: the fetch window expires before completion. -/
def fetchWindowExpires (i : LaneId) (s : State) : State :=
  let l := s.lane i
  match l.sEnd.state, l.sEnd.hand, l.sEnd.timer with
  | .transfer, some (.fetch id _), some _ => interruptFetch i (.lapsed .timeout) id s
  | _, _, _ => s

/-! ### ABORT (R72, R79) -/

/-- R72, R79: an ABORT from the level's shuttle that names the S-end. -/
def abortShuttle (i : LaneId) (src : NodeId) (s : State) : State :=
  let l := s.lane i
  if src != s.shuttleId then s
  else
    match l.sEnd.state, l.sEnd.hand with
    | .reserved, some h => endPutEmpty i .aborted h s
    | .transfer, some (.put id k len) =>
      if l.blocked .sSill then raiseLaneFault .shuttleEnd i .stranded id s else endPutEmpty i .aborted (.put id k len) s
    | .transfer, some (.fetch id _) => interruptFetch i .aborted id s
    | _, _ => s

/-! ### PUT (R66-R69) -/

/-- What the checks of a request find. -/
inductive Check where
  | refuse (v : Verdict)
  | again
  | accept
  deriving DecidableEq, Repr

/-- R64: the request repeats the accepted put. -/
def Lane.putRepeats (l : Lane) (f : Frame) : Bool :=
  l.sBusy && l.sEnd.hand == some (.put (f.toteId 2) f.putKind f.putLen)

/-- R67: the order check fails when the new seq is not ahead of some record of its group in the lane. -/
def Lane.orderFails (l : Lane) (k : ToteKind) : Bool :=
  match k with
  | .grouped g q =>
    l.queue.any fun t =>
      match t.kind with
      | .grouped h r => h == g && (forwardDist r q == 0 || 2048 ≤ forwardDist r q)
      | .loose | .inbound => false
  | .loose | .inbound => false

/-- R66: position 0 is occupied or reserved, or is the source of a move not yet complete. -/
def Lane.putFull (l : Lane) : Bool :=
  (l.recordAt 0).isSome || (match l.move with | some m => m.src == 0 | none => false)

/-- R66: the checks of a PUT for one lane, in order. -/
def putCheck (i : LaneId) (f : Frame) (s : State) : Check :=
  let l := s.lane i
  if f.src ≠ s.shuttleId then .refuse .wrongPartner
  else if s.node = .listening then .refuse .starting
  else if l.state = .disabled ∨ l.state = .faulted then .refuse .outOfService
  else if l.putRepeats f then .again
  else if l.sEnd.state ≠ .idle then .refuse .busy
  else if l.effHold then .refuse .held
  else if l.dir = .inward then .refuse .wrongDirection
  else if l.state = .draining ∨ l.state = .turning then .refuse .draining
  else if s.holdsId (f.toteId 2) then .refuse .duplicate
  else if l.putFull then .refuse .full
  else if l.orderFails f.putKind then .refuse .order
  else .accept

/-- R69: a new put is accepted at a lane. -/
def acceptPut (i : LaneId) (f : Frame) (s : State) : State :=
  let id := f.toteId 2
  let s1 := appendFrame (s.replyFrame i .shuttleEnd .put .accepted 0 id) s
  let s2 := createRecord i
    { id := id, kind := f.putKind, len := f.putLen, pos := 0, state := .entering, cls := none, advised := false } s1
  s2.modLane i fun l =>
    { l with
      sEnd := { state := .reserved, hand := some (.put id f.putKind f.putLen), offer := none
                timer := some (s.conf i).putWindow } }

/-- R64, R66: the answer to a PUT at one lane. -/
def answerPut (i : LaneId) (f : Frame) (s : State) : State :=
  match putCheck i f s with
  | .refuse v => appendFrame (s.replyFrame i .shuttleEnd .put v 0 (f.toteId 2)) s
  | .again => appendFrame (s.replyFrame i .shuttleEnd .put .accepted 0 (f.toteId 2)) s
  | .accept => acceptPut i f s

/-- R68: the lane a PUT with lane choice EITHER goes to when both lanes are considered. A repeat is answered at the lane
of the handover in hand. A PUT with no tote id may repeat the accepted puts of both lanes at once, which R68 does not
foresee. It is then answered at lane 0: DESIGN CHOICE (log entry 44). -/
def eitherLane (c0 c1 : Check) (s : State) : LaneId :=
  match c0, c1 with
  | .again, _ => .lane0
  | _, .again => .lane1
  | .accept, .accept => if s.lane1.queue.length < s.lane0.queue.length then .lane1 else .lane0
  | .accept, .refuse _ => .lane0
  | .refuse _, .accept => .lane1
  | .refuse _, .refuse _ => .lane0

/-- R68: a PUT from the receive queue. With EITHER, both fitted lanes are considered. -/
def takePut (f : Frame) (s : State) : State :=
  match f.laneChoice with
  | some i => answerPut i f s
  | none =>
    if s.straps.twoLanes then answerPut (eitherLane (putCheck .lane0 f s) (putCheck .lane1 f s) s) f s
    else answerPut .lane0 f s

/-! ### FETCH (R76, R77) -/

/-- R64: the request repeats the accepted fetch. -/
def Lane.fetchRepeats (l : Lane) (id : Option ToteId) : Bool :=
  l.sBusy &&
    match l.sEnd.hand with
    | some (.fetch held _) => held == id
    | some (.put _ _ _) | none => false

/-- R76: the checks of a FETCH, in order. -/
def fetchCheck (i : LaneId) (f : Frame) (s : State) : Check :=
  let l := s.lane i
  if f.src ≠ s.shuttleId then .refuse .wrongPartner
  else if s.node = .listening then .refuse .starting
  else if l.state = .disabled ∨ l.state = .faulted then .refuse .outOfService
  else if l.fetchRepeats (f.toteId 2) then .again
  else if l.sBusy then .refuse .busy
  else if l.effHold then .refuse .held
  else if l.dir = .outward then .refuse .wrongDirection
  else if l.sEnd.state ≠ .offering ∨ l.sEnd.offer ≠ some ⟨f.toteId 2⟩ then .refuse .stale
  else .accept

/-- R77: a new FETCH is accepted. -/
def acceptFetch (i : LaneId) (f : Frame) (s : State) : State :=
  let id := f.toteId 2
  (appendFrame (s.replyFrame i .shuttleEnd .fetch .accepted 0 id) s).modLane i fun l =>
    { (l.mapQueue fun t => if t.state = .offered then { t with state := .leaving } else t).setZone 0 .reverse with
      sEnd := { state := .transfer, hand := some (.fetch id false), offer := none
                timer := some (s.conf i).fetchWindow } }

/-- R64, R76: a FETCH from the receive queue. -/
def takeFetch (f : Frame) (s : State) : State :=
  let i := f.lane
  match fetchCheck i f s with
  | .refuse v => appendFrame (s.replyFrame i .shuttleEnd .fetch v 0 (f.toteId 2)) s
  | .again => appendFrame (s.replyFrame i .shuttleEnd .fetch .accepted 0 (f.toteId 2)) s
  | .accept => acceptFetch i f s

end Sys2Proof.Machine
end

