-- ==== Sys2Proof/Machine/Tracker.lean ====
section
/-! DEFINITION. The transfer tracker's own arithmetic (Chapter 6): targets, expected values, windows, RUNOUT, the
quadrature decoder and the judgement of an edge. -/

namespace Sys2Proof.Machine

open Sys2Proof

/-! ### Targets (R116) -/

/-- The target list of a job (R116). -/
def TrackJob.targets (j : TrackJob) : List Target :=
  match j.kind, j.len2 with
  | .take, none => [.t1, .t2]
  | .take, some _ => [.t1, .t2, .t3, .t4]
  | .give, _ => [.g1, .g2, .g3]

/-- The target after one in a list. -/
def targetAfter (t : Target) : List Target → Option Target
  | [] => none
  | x :: rest => if x = t then rest.head? else targetAfter t rest

/-- The last target of a job's list. -/
def TrackJob.lastTarget (j : TrackJob) : Target :=
  match j.kind, j.len2 with
  | .take, none => .t2
  | .take, some _ => .t4
  | .give, _ => .g3

/-- A length class's length (R116). -/
def lenCounts (c : LaneSettings) : LenClass → Int
  | .standard => c.len0
  | .long => c.len1

/-- R116: δ1 (and a give's δ) stands as 0 until taken. -/
def Tracker.off1 (t : Tracker) : Int := t.d1.getD 0

/-- R116: δ2 stands as δ1 until taken. -/
def Tracker.off2 (t : Tracker) : Int := t.d2.getD t.off1

/-- The expected value E of a target, with the anchor offsets standing (R116). -/
def Tracker.expected (t : Tracker) (c : LaneSettings) (j : TrackJob) : Target → Int
  | .t1 => c.ds
  | .t2 => c.ds + t.off1 + lenCounts c j.len1
  | .t3 => c.ds + c.pitch + t.off1
  | .t4 => c.ds + c.pitch + t.off2 + lenCounts c (j.len2.getD .standard)
  | .g1 => c.dg
  | .g2 => c.dg + t.off1 + lenCounts c j.len1
  | .g3 => c.dg + t.off1 + c.dseat

/-- The tolerance of a target (R116). -/
def targetTol (c : LaneSettings) : Target → Int
  | .g3 => 2 * c.tol
  | .t1 | .t2 | .t3 | .t4 | .g1 | .g2 => c.tol

/-- A block target expects an eye to block, a clear target one to clear (R116). -/
def Target.isBlock : Target → Bool
  | .t1 | .t3 | .g1 | .g3 => true
  | .t2 | .t4 | .g2 => false

/-- R122: a sill-block target, whose pass sets SPAN. -/
def Target.isSillBlock : Target → Bool
  | .t1 | .t3 | .g1 => true
  | .t2 | .t4 | .g2 | .g3 => false

/-- The two eyes whose edges reach the tracker (R120). -/
inductive TrackEye where
  | sill
  | stop
  deriving DecidableEq, Repr

/-- R118: the edge of a target is an L-sill edge of its kind, or stop eye n−1 blocking for G3. -/
def Target.expectsEdge (g : Target) (e : TrackEye) (blocks : Bool) : Bool :=
  (e == (if g = .g3 then .stop else .sill)) && blocks == g.isBlock

/-- R114: the transfer measure m, the count of a take and its negative for a give. -/
def Tracker.measure (t : Tracker) (j : TrackJob) : Int :=
  match j.kind with
  | .take => t.count
  | .give => -t.count

/-! ### Starting (R111) -/

/-- R111: the tracker starts at GO. The mode is not changed. -/
def Tracker.start (t : Tracker) (c : LaneSettings) (j : TrackJob) (a b : Bool) : Tracker :=
  { t with
    running := true, count := 0, refA := a, refB := b, job := some j, active := j.targets.head?
    d1 := none, d2 := none, span := false, timedOut := false
    transfer := some c.transferTime
    stall := if t.untracked then none else some c.stallTime }

/-! ### Counting (R113, R114) -/

/-- The sense of a decoder edge: +1 in the FORWARD sense, −1 in the REVERSE sense, 0 where the state is unchanged. A
change of both inputs at once is no decoder edge: each input's change is its own (R113). -/
def quadrature (a b a' b' : Bool) : Int :=
  match a, b, a', b' with
  | false, false, true, false => 1
  | true, false, true, true => 1
  | true, true, false, true => 1
  | false, true, false, false => 1
  | false, false, false, true => -1
  | true, false, false, false => -1
  | true, true, true, false => -1
  | false, true, true, true => -1
  | _, _, _, _ => 0

/-- R114: the limit of the tracker count. -/
def countLimit : Int := 32767

/-- R123: m lies in RUNOUT when it is above the last target's E plus 4·tol, or below −4·tol. -/
def Tracker.inRunout (t : Tracker) (c : LaneSettings) (j : TrackJob) : Bool :=
  let m := t.measure j
  t.expected c j j.lastTarget + 4 * c.tol < m || m < -(4 * (c.tol : Int))

/-- R119: the active target has waited beyond its window, in TRACKED mode. A block target fails with EDGE_LATE, a clear
target with LENGTH. -/
def Tracker.lateFault (t : Tracker) (c : LaneSettings) (j : TrackJob) : Option FaultKind :=
  match t.untracked, t.active with
  | false, some g =>
    if t.expected c j g + targetTol c g < t.measure j then some (if g.isBlock then .edgeLate else .length)
    else none
  | _, _ => none

/-- R119, R123: what a count change raises. A second fault due at the same change is not raised (R128). -/
def Tracker.countFault (t : Tracker) (c : LaneSettings) : Option FaultKind :=
  match t.job with
  | none => none
  | some j =>
    match t.lateFault c j with
    | some k => some k
    | none => if t.inRunout c j then some .runout else none

/-- R113, R114: a decoder edge moves the count, restarts the stall timer of a TRACKED transfer (R124), and the new state
becomes the reference. An edge that would pass the limit leaves the count there and raises RUNOUT. -/
def Tracker.decode (t : Tracker) (c : LaneSettings) (a b : Bool) : Tracker × Option FaultKind :=
  let step := quadrature t.refA t.refB a b
  let next := t.count + step
  let referenced := { t with refA := a, refB := b }
  if step = 0 then (referenced, none)
  else if next < -countLimit ∨ countLimit < next then (referenced, some .runout)
  else
    let moved :=
      { referenced with count := next, stall := if t.untracked then none else some c.stallTime }
    (moved, moved.countFault c)

/-! ### Edges (R117, R118, R120, R121, R126) -/

/-- What an edge is to the tracker. -/
inductive EdgeVerdict where
  | pass (g : Target)
  | fault (k : FaultKind)
  deriving DecidableEq, Repr

/-- R118, R120, R126: the judgement of an edge that reaches the running tracker. An edge beyond the window, which R118
says cannot occur, is judged late (log entry 26). -/
def Tracker.judge (t : Tracker) (c : LaneSettings) (e : TrackEye) (blocks : Bool) : EdgeVerdict :=
  match t.job, t.active with
  | some j, some g =>
    if g.expectsEdge e blocks then
      if t.untracked then .pass g
      else
        let x := t.measure j
        let want := t.expected c j g
        if x < want - targetTol c g then .fault (if g.isBlock then .edgeEarly else .length)
        else if want + targetTol c g < x then .fault (if g.isBlock then .edgeLate else .length)
        else .pass g
    else .fault .edgeEarly
  | _, _ => .fault .edgeEarly

/-- R117: the anchor offset taken at the pass of a sill-block target in TRACKED mode. -/
def Tracker.anchor (t : Tracker) (c : LaneSettings) (j : TrackJob) (g : Target) : Tracker :=
  if t.untracked || !g.isSillBlock then t
  else
    let d := t.measure j - t.expected c j g
    if g.isSecond then { t with d2 := some d } else { t with d1 := some d }

/-- R121: the tracker's part in the pass of a target: the offset, SPAN (R122) and the next target. -/
def Tracker.passTarget (t : Tracker) (c : LaneSettings) (g : Target) : Tracker :=
  match t.job with
  | none => t
  | some j =>
    let anchored := t.anchor c j g
    { anchored with
      span := if g.isSillBlock then true else if g = .g3 then anchored.span else false
      active := targetAfter g j.targets }

end Sys2Proof.Machine
end

