-- ==== Sys2Proof/Machine/LiftEnd.lean ====
section
/-! DEFINITION. The lift-end engine (Chapter 5): its endings, alignment and GO, the transfer with its tracker (Chapter 6),
interruptions, and its reactions to holds and presence. -/

namespace Sys2Proof.Machine

open Sys2Proof

/-! ### Zones of the handover -/

/-- The zones of a lift-end handover set to a command: n−1, and n−2 too for a take of count 2 (R97). -/
def Lane.setLiftZones (l : Lane) (h : LiftHand) (d : Drive) : Lane :=
  let one := l.setZone (l.n - 1) d
  if h.second.isSome then one.setZone (l.n - 2) d else one

/-- The flow of a transfer: a take runs FORWARD, a give REVERSE (R97). -/
def transferFlow : Transfer → Drive
  | .take => .forward
  | .give => .reverse

/-! ### Endings -/

/-- The engine leaves its handover: its zones stop, the tracker stops (R112) and it is IDLE. -/
def Lane.leaveLift (l : Lane) (h : LiftHand) : Lane := ((l.setLiftZones h .stop).stopTracker).lIdle

/-- A handover in RESERVED ends without its tote: END, a take's records restored, a give's record removed (R98, R100,
R106, R107). -/
def endReserved (i : LaneId) (o : Ending) (h : LiftHand) (s : State) : State :=
  let s1 := appendFrame (s.liftEndFrame i o h) s
  let s2 := s1.modLane i fun l => l.leaveLift h
  match h.kind with
  | .take => liftReturned i (s2.modLane i fun l => l.mapQueue Tote.restore)
  | .give => liftReturned i (removeRecords i (·.state == .entering) s2)

/-- R102: a take is DONE, and the record still LEAVING is removed from the head. -/
def takeDone (i : LaneId) (h : LiftHand) (s : State) : State :=
  let s1 := appendFrame (s.liftEndFrame i .done h) s
  let s2 := s1.modLane i fun l => l.leaveLift h
  liftReturned i (removeRecords i (·.state == .leaving) s2)

/-- R103: a give is DONE. Its record is SEATED at n−1 and announced (R10) once the end has returned. -/
def giveDone (i : LaneId) (h : LiftHand) (s : State) : State :=
  let s1 := appendFrame (s.liftEndFrame i .done h) s
  let s2 := s1.modLane i fun l =>
    (l.leaveLift h).mapQueue fun t => if t.state = .entering then t.seat else t
  let s3 := emptyTest i (sillTest i .liftEnd s2)
  evalLift i (evalMove i (announceSeated i ((s.lane i).n - 1) s3))

/-- R102: tote 1 of a take of count 2 has left the lane: its record goes, and the first-gone note is set. -/
def firstToteGone (i : LaneId) (h : LiftHand) (s : State) : State :=
  let gone := (s.lane i).queue.take 1
  let s1 := s.modLane i fun l =>
    { l.dropHead with lEnd := { l.lEnd with hand := some { h with firstGone := true } } }
  evalMove i (gone.foldl (fun t r => announceRemoval r t) s1)

/-! ### Interruption in TRANSFER (R104) -/

/-- The positions a take uses, nearest the exit first (R104). -/
def Lane.takePositions (l : Lane) (h : LiftHand) : List Nat :=
  if h.second.isSome then [l.n - 1, l.n - 2] else [l.n - 1]

/-- R104: the taken records still in the lane, nearest the exit first, SEATED at the matched positions. -/
def seatAt : List Nat → List Tote → List Tote
  | _, [] => []
  | [], t :: rest => t :: seatAt [] rest
  | p :: ps, t :: rest =>
    if t.state = .leaving then { t with state := .seated, pos := p } :: seatAt ps rest else t :: seatAt (p :: ps) rest

/-- The tote id of the spanning record's tote (R104). -/
def LiftHand.spanningId (h : LiftHand) (t : Tracker) : Option ToteId :=
  match t.active with
  | some g => if g.isSecond then h.second.bind (·.id) else h.first.id
  | none => h.first.id

/-- R104, not in SPAN, a take: records are matched with blocked eyes. Where the numbers differ, the lane raises STRANDED
with the id of the nearest record to the exit. -/
def interruptTake (i : LaneId) (h : LiftHand) (s : State) : State :=
  let l := s.lane i
  let taken := l.queue.filter (·.state == .leaving)
  let eyes := (l.takePositions h).filter l.stopBlocked
  if eyes.length = taken.length then
    let s1 := appendFrame (s.liftEndFrame i .aborted h) s
    liftReturned i (s1.modLane i fun m => { m.leaveLift h with queue := seatAt eyes m.queue })
  else raiseLaneFault .liftEnd i .stranded (taken.head?.bind (·.id)) s

/-- R104, not in SPAN, a give: the ENTERING record is removed. -/
def interruptGive (i : LaneId) (h : LiftHand) (s : State) : State :=
  let s1 := appendFrame (s.liftEndFrame i .aborted h) s
  let s2 := s1.modLane i fun l => l.leaveLift h
  liftReturned i (removeRecords i (·.state == .entering) s2)

/-- R104: an ABORT, or the aligned input going inactive, interrupts a transfer. -/
def interruptTransfer (i : LaneId) (s : State) : State :=
  let l := s.lane i
  match l.lEnd.state, l.lEnd.hand with
  | .transfer, some h =>
    let stopped := s.modLane i fun m => m.setLiftZones h .stop
    if l.tracker.span then raiseLaneFault .liftEnd i .stranded (h.spanningId l.tracker) stopped
    else
      match h.kind with
      | .take => interruptTake i h stopped
      | .give => interruptGive i h stopped
  | _, _ => s

/-! ### Alignment and GO (R96, R97) -/

/-- What GO hands the tracker (R111). -/
def LiftHand.job (h : LiftHand) : TrackJob := { kind := h.kind, len1 := h.first.len, len2 := h.second.map (·.len) }

/-- R97: with both flags set in RESERVED, GO is sent, the tracker starts, the zones are driven and the engine enters
TRANSFER. The flags are cleared as RESERVED is left (log entry 24). -/
def tryGo (i : LaneId) (s : State) : State :=
  let l := s.lane i
  match l.lEnd.state, l.lEnd.hand with
  | .reserved, some h =>
    if l.lEnd.frameFlag && l.lEnd.inputFlag then
      (appendFrame (s.goFrame i h.kind h.count) s).modLane i fun m =>
        { m.setLiftZones h (transferFlow h.kind) with
          tracker := m.tracker.start (s.conf i) h.job m.encA m.encB
          lEnd := { m.lEnd with state := .transfer, frameFlag := false, inputFlag := false, timer := none } }
    else s
  | _, _ => s

/-- R96, R104: an aligned-input edge. -/
def alignedEdge (i : LaneId) (goesActive : Bool) (s : State) : State :=
  match (s.lane i).lEnd.state with
  | .reserved => tryGo i (s.modLane i fun l => { l with lEnd := { l.lEnd with inputFlag := goesActive } })
  | .transfer => if goesActive then s else interruptTransfer i s
  | .idle | .offering => s

/-! ### The tracker in the transfer (R101-R103, R119-R128) -/

/-- R128: the tote id a tracker fault names, the active target's tote. -/
def Lane.activeToteId (l : Lane) : Option ToteId := l.lEnd.hand.bind fun h => h.spanningId l.tracker

/-- R121: the engine acts on the pass of a target. -/
def engineOnPass (i : LaneId) (g : Target) (s : State) : State :=
  match (s.lane i).lEnd.hand with
  | some h =>
    match g with
    | .t2 => if h.second.isSome then firstToteGone i h s else takeDone i h s
    | .t4 => takeDone i h s
    | .g3 => giveDone i h s
    | .t1 | .t3 | .g1 | .g2 => s
  | none => s

/-- An edge that reaches the tracker (R118, R120, R121). A stopped tracker does not act (R112). -/
def trackerEdge (i : LaneId) (e : TrackEye) (blocks : Bool) (s : State) : State :=
  let l := s.lane i
  if !l.tracker.running then s
  else
    match l.tracker.judge (s.conf i) e blocks with
    | .fault k => raiseLaneFault .tracker i k l.activeToteId s
    | .pass g =>
      engineOnPass i g (s.modLane i fun m => { m with tracker := m.tracker.passTarget (s.conf i) g })

/-- R113: a change of an encoder input. The pin changes. A running tracker decodes it against its reference. -/
def encoderChanges (i : LaneId) (e : EncInput) (s : State) : State :=
  let l := s.lane i
  let a := if e = .a then !l.encA else l.encA
  let b := if e = .b then !l.encB else l.encB
  let pinned := s.setLane i { l with encA := a, encB := b }
  if l.tracker.running then
    let ra := if e = .a then a else l.tracker.refA
    let rb := if e = .b then b else l.tracker.refB
    let (moved, fault) := l.tracker.decode (s.conf i) ra rb
    let counted := pinned.modLane i fun m => { m with tracker := moved }
    match fault with
    | some k => raiseLaneFault .tracker i k l.activeToteId counted
    | none => counted
  else pinned

/-- R125: the stall timer expires in TRACKED mode. -/
def stallExpires (i : LaneId) (s : State) : State :=
  let l := s.lane i
  if l.tracker.running && !l.tracker.untracked && l.tracker.stall.isSome then
    match l.sensing.heldClass with
    | .inside =>
      let lost := raiseOccurrence (.ofLane .tracker i) (s.laneOccurrence .encoderLost i l.activeToteId) s
      let untracked := lost.modLane i fun m => { m with tracker := { m.tracker with untracked := true, stall := none } }
      if l.tracker.timedOut then raiseLaneFault .tracker i .transferTime l.activeToteId untracked else untracked
    | .below | .above => raiseLaneFault .tracker i .stall l.activeToteId s
  else s

/-- R127: the transfer timer expires. -/
def transferExpires (i : LaneId) (s : State) : State :=
  let l := s.lane i
  if l.tracker.running && l.tracker.transfer.isSome then
    if l.tracker.untracked then raiseLaneFault .tracker i .transferTime l.activeToteId s
    else s.modLane i fun m => { m with tracker := { m.tracker with timedOut := true, transfer := none } }
  else s

/-! ### The eyes (R99, R101, R20) -/

/-- An L-sill edge. -/
def liftSillEdge (i : LaneId) (blocks : Bool) (s : State) : State :=
  let l := s.lane i
  match l.lEnd.state with
  | .reserved =>
    if blocks then raiseLaneFault .liftEnd i .sillBlocked (l.lEnd.hand.bind (·.first.id)) s else s
  | .transfer => trackerEdge i .sill blocks s
  | .idle | .offering => if blocks && l.flowing then raiseLaneFault .laneUnit i .sillBlocked none s else s

/-- An edge of a stop eye at a position in use by the lift end (R99, R101). -/
def liftStopEdge (i : LaneId) (k : Nat) (blocks : Bool) (s : State) : State :=
  let l := s.lane i
  match l.lEnd.state, l.lEnd.hand with
  | .reserved, some h =>
    match h.kind, blocks with
    | .give, true => if k = l.n - 1 then raiseLaneFault .liftEnd i .phantom h.first.id s else s
    | .take, false =>
      match l.recordAt k with
      | some t => if t.state = .leaving then raiseLaneFault .liftEnd i .stranded t.id s else s
      | none => s
    | .give, false => s
    | .take, true => s
  | .transfer, some h =>
    match h.kind with
    | .give => trackerEdge i .stop blocks s
    | .take => s
  | _, _ => s

/-! ### Holds and presence (R106, R107) -/

/-- A handover in RESERVED lapses. -/
def lapseLift (i : LaneId) (r : LapseReason) (s : State) : State :=
  let l := s.lane i
  match l.lEnd.state, l.lEnd.hand with
  | .reserved, some h => endReserved i (.lapsed r) h s
  | _, _ => s

/-- R106: the lane's effective hold sets. A take that lapses, and offers withdrawn, set the latch. -/
def liftHoldSets (i : LaneId) (s : State) : State :=
  let l := s.lane i
  let latched (t : State) : State := t.modLane i fun m => { m with lLatch := true }
  match l.lEnd.state, l.lEnd.hand with
  | .offering, _ => latched (withdrawLift i s)
  | .reserved, some h =>
    match h.kind with
    | .take => latched (lapseLift i .held s)
    | .give => lapseLift i .held s
  | _, _ => s

/-- R150: the lane's effective hold clears. -/
def liftHoldClears (i : LaneId) (s : State) : State :=
  if (s.lane i).lLatch then evalLift i (s.modLane i fun l => { l with lLatch := false }) else s

/-- R107: the lift goes LATE, or out of service. The withdrawn records are SEATED, so a move is evaluated (R13). -/
def liftUnavailable (i : LaneId) (s : State) : State :=
  match (s.lane i).lEnd.state with
  | .offering => evalMove i (withdrawLift i s)
  | .idle | .reserved | .transfer => s

/-- R107: the lift goes LOST. -/
def liftLost (i : LaneId) (s : State) : State :=
  match (s.lane i).lEnd.state with
  | .offering => evalMove i (withdrawLift i s)
  | .reserved => lapseLift i .peerLost s
  | .idle | .transfer => s

/-- R98: the align window expires in RESERVED. -/
def alignWindowExpires (i : LaneId) (s : State) : State :=
  match (s.lane i).lEnd.timer with
  | some _ => lapseLift i .align s
  | none => s

/-! ### ABORT and ALIGNED (R96, R100) -/

/-- R100, R104: an ABORT from the lane's lift that names the L-end. -/
def abortLift (i : LaneId) (src : NodeId) (s : State) : State :=
  let l := s.lane i
  if src != liftId i then s
  else
    match l.lEnd.state, l.lEnd.hand with
    | .reserved, some h => endReserved i .aborted h s
    | .transfer, some _ => interruptTransfer i s
    | _, _ => s

/-- R96: an ALIGNED from the receive queue. -/
def takeAligned (f : Frame) (s : State) : State :=
  let i := f.lane
  if f.src != liftId i then s
  else
    match (s.lane i).lEnd.state with
    | .reserved => tryGo i (s.modLane i fun l => { l with lEnd := { l.lEnd with frameFlag := true } })
    | .idle | .offering | .transfer => s

/-- R72, R79, R100: an ABORT from the receive queue goes to the engine its end field names (R182). -/
def takeAbort (f : Frame) (s : State) : State :=
  match f.laneEnd with
  | .liftEnd => abortLift f.lane f.src s
  | .shuttleEnd => abortShuttle f.lane f.src s

/-! ### TAKE (R91, R92) -/

/-- R89: the request repeats the accepted handover. -/
def Lane.liftRepeats (l : Lane) (k : Transfer) (id : Option ToteId) : Bool :=
  l.lBusy &&
    match l.lEnd.hand with
    | some h => h.kind == k && h.first.id == id
    | none => false

/-- R91: the checks of a TAKE, in order. -/
def takeCheck (i : LaneId) (f : Frame) (s : State) : Check :=
  let l := s.lane i
  if f.src ≠ liftId i then .refuse .wrongPartner
  else if s.node = .listening then .refuse .starting
  else if l.state = .disabled ∨ l.state = .faulted then .refuse .outOfService
  else if l.liftRepeats .take (f.toteId 3) then .again
  else if l.lBusy then .refuse .busy
  else if l.effHold then .refuse .held
  else if l.dir = .inward then .refuse .wrongDirection
  else if l.lEnd.head ≠ some ⟨f.toteId 3⟩ then .refuse .stale
  else .accept

/-- The tote a handover takes from a record: the offered id and the record's length class. -/
def Lane.handTote (l : Lane) (k : Nat) (o : Offer) : HandTote :=
  { id := o.id, len := ((l.recordAt k).map (·.len)).getD .long }

/-- The engine RESERVED for a handover: the frame flag clear, the input flag read from the carriage-aligned input, and
the align window running (R92 step 5). -/
def Lane.reserveLift (l : Lane) (h : LiftHand) (alignWindow : Nat) : Lane :=
  { l with
    lEnd :=
      { state := .reserved, head := none, second := none, hand := some h
        frameFlag := false, inputFlag := l.alignedActive, timer := some alignWindow } }

/-- R92: a new TAKE is accepted. -/
def acceptTake (i : LaneId) (f : Frame) (s : State) : State :=
  let l := s.lane i
  let id := f.toteId 3
  let granted := if f.takeCount = 2 then l.lEnd.second else none
  let hand : LiftHand :=
    { kind := .take, first := l.handTote (l.n - 1) ⟨id⟩
      second := granted.map (l.handTote (l.n - 2)), firstGone := false }
  let s1 := appendFrame (s.replyFrame i .liftEnd .take .accepted hand.count id) s
  let s2 := s1.modLane i fun m => m.mark (m.n - 1) .leaving
  let s3 :=
    match granted, l.lEnd.second with
    | some _, _ => s2.modLane i fun m => m.mark (m.n - 2) .leaving
    | none, some o =>
      (appendFrame (s.withdrawFrame i .liftEnd .second o.id) s2).modLane i fun m => m.mark (m.n - 2) .seated
    | none, none => s2
  tryGo i (s3.modLane i fun m => m.reserveLift hand (s.conf i).alignWindow)

/-- R89: the count a repeat is answered with. -/
def Lane.liftCount (l : Lane) : Nat := (l.lEnd.hand.map (·.count)).getD 0

/-- R89, R91: a TAKE from the receive queue. -/
def takeTake (f : Frame) (s : State) : State :=
  let i := f.lane
  match takeCheck i f s with
  | .refuse v => appendFrame (s.replyFrame i .liftEnd .take v 0 (f.toteId 3)) s
  | .again => appendFrame (s.replyFrame i .liftEnd .take .accepted (s.lane i).liftCount (f.toteId 3)) s
  | .accept => acceptTake i f s

/-! ### GIVE (R94, R95) -/

/-- R89: the request repeats the accepted give, its length class the same too. -/
def Lane.giveRepeats (l : Lane) (f : Frame) : Bool :=
  l.liftRepeats .give (f.toteId 2) && (l.lEnd.hand.map (·.first.len)) == some f.giveLen

/-- R94: position n−1 is occupied or reserved, or is the source or destination of the move in progress. -/
def Lane.giveFull (l : Lane) : Bool := (l.recordAt (l.n - 1)).isSome || l.usedByMove (l.n - 1)

/-- R94: the checks of a GIVE, in order. -/
def giveCheck (i : LaneId) (f : Frame) (s : State) : Check :=
  let l := s.lane i
  if f.src ≠ liftId i then .refuse .wrongPartner
  else if s.node = .listening then .refuse .starting
  else if l.state = .disabled ∨ l.state = .faulted then .refuse .outOfService
  else if l.giveRepeats f then .again
  else if l.lBusy then .refuse .busy
  else if l.effHold then .refuse .held
  else if l.dir = .outward then .refuse .wrongDirection
  else if l.state = .draining ∨ l.state = .turning then .refuse .draining
  else if s.holdsId (f.toteId 2) then .refuse .duplicate
  else if l.giveFull then .refuse .full
  else .accept

/-- R95: a new GIVE is accepted. -/
def acceptGive (i : LaneId) (f : Frame) (s : State) : State :=
  let id := f.toteId 2
  let hand : LiftHand := { kind := .give, first := { id := id, len := f.giveLen }, second := none, firstGone := false }
  let s1 := appendFrame (s.replyFrame i .liftEnd .give .accepted 1 id) s
  let s2 := createRecord i
    { id := id, kind := .inbound, len := f.giveLen, pos := (s.lane i).n - 1, state := .entering, cls := none
      advised := false } s1
  tryGo i (s2.modLane i fun m => m.reserveLift hand (s.conf i).alignWindow)

/-- R89, R94: a GIVE from the receive queue. -/
def takeGive (f : Frame) (s : State) : State :=
  let i := f.lane
  match giveCheck i f s with
  | .refuse v => appendFrame (s.replyFrame i .liftEnd .give v 0 (f.toteId 2)) s
  | .again => appendFrame (s.replyFrame i .liftEnd .give .accepted (s.lane i).liftCount (f.toteId 2)) s
  | .accept => acceptGive i f s

end Sys2Proof.Machine
end

