-- ==== Sys2Proof/Machine/Sensing.lean ====
section
/-! DEFINITION. The sensing unit (Chapter 2): where an edge goes (R18-R20, R31), the move's two eyes (R15), debouncing
(R28-R30), the drive condition (R34, R37) and the drive current (R35-R40). -/

namespace Sys2Proof.Machine

open Sys2Proof

/-! ### The move in progress (R15, R16) -/

/-- R15: the move completes. Its zones stop, its record is SEATED at the destination, and R10 and R13 are applied. -/
def moveComplete (i : LaneId) (m : Move) (s : State) : State :=
  let s1 := s.modLane i fun l =>
    { ((l.mapQueue fun t => if t.state = .moving then t.seat else t).setZone m.src .stop).setZone m.dst .stop with
      move := none, moveTimer := none }
  evalMove i (announceSeated i m.dst s1)

/-- R15: an edge at a position in use by the move. -/
def moveEdge (i : LaneId) (m : Move) (k : Nat) (blocks : Bool) (s : State) : State :=
  if k = m.src then
    if blocks then (if m.vacated then raiseLaneFault .laneUnit i .phantom none s else s)
    else s.modLane i fun l => { l with move := some { m with vacated := true } }
  else if blocks then (if m.vacated then moveComplete i m s else raiseLaneFault .laneUnit i .phantom none s)
  else s

/-- R16: the move timer expires with the move in progress. The tote named is the moving one (log entry 21). -/
def moveTimerExpires (i : LaneId) (s : State) : State :=
  let l := s.lane i
  match l.move, l.moveTimer with
  | some m, some _ => raiseLaneFault .laneUnit i .moveTimeout ((l.recordAt m.dst).bind (·.id)) s
  | _, _ => s

/-! ### Edges no activity expects (R18-R20) -/

/-- R19: the end engine that offered a removed record withdraws its offer. -/
def withdrawLost (i : LaneId) (t : Tote) (s : State) : State :=
  let l := s.lane i
  if t.state ≠ .offered then s
  else
    match l.dir with
    | .outward => if t.pos = l.n - 1 then withdrawLift i s else withdrawSecond i s
    | .inward => withdrawShuttle i s

/-- R19: a stop eye clears under a SEATED or OFFERED record. -/
def lostTote (i : LaneId) (t : Tote) (s : State) : State :=
  let raised := raiseOccurrence (.ofLane .laneUnit i) (s.laneOccurrence .lostTote i t.id) s
  evalMove i (emptyTest i (withdrawLost i t (removeRecords i (·.pos == t.pos) raised)))

/-- R18, R19: a stop-eye edge no activity expects, in a RUNNING or DRAINING lane. -/
def unexpectedStop (i : LaneId) (k : Nat) (blocks : Bool) (s : State) : State :=
  let l := s.lane i
  if !l.flowing then s
  else
    match l.recordAt k, blocks with
    | none, true => raiseLaneFault .laneUnit i .phantom none s
    | some t, false => if t.state = .seated ∨ t.state = .offered then lostTote i t s else s
    | none, false => s
    | some _, true => s

/-- R18: a stop-eye edge goes to the activity that uses its position. -/
def stopEdge (i : LaneId) (k : Nat) (blocks : Bool) (s : State) : State :=
  let l := s.lane i
  match l.move with
  | some m =>
    if k = m.src ∨ k = m.dst then moveEdge i m k blocks s
    else if l.usedByShuttle k then shuttleStopEdge i blocks s
    else if l.usedByLift k then liftStopEdge i k blocks s
    else unexpectedStop i k blocks s
  | none =>
    if l.usedByShuttle k then shuttleStopEdge i blocks s
    else if l.usedByLift k then liftStopEdge i k blocks s
    else unexpectedStop i k blocks s

/-- R31: an edge of a settled input is passed on in LISTENING and RUNNING, named by the input's new level. -/
def passEdge (i : LaneId) (e : InputId) (high : Bool) (s : State) : State :=
  if !s.active then s
  else
    match e with
    | .stop k => stopEdge i k.val (!high) s
    | .sSill => shuttleSillEdge i (!high) s
    | .lSill => liftSillEdge i (!high) s
    | .aligned => alignedEdge i high s

/-! ### Debouncing (R28-R30) -/

/-- The debounced state takes the level the pin shows, the timer stopped. -/
def Input.settle (x : Input) : Input := { x with debounced := some x.pin, timer := none }

/-- R30: settling begins for an input: its timer starts, or with a debounce time of 0 it settles at once (R29). -/
def Input.beginSettling (debounce : Nat) (x : Input) : Input :=
  if debounce = 0 then x.settle else { x with timer := some debounce }

/-- R30: every watched input of a fitted lane has its first debounced state. -/
def Lane.settled (l : Lane) : Bool := allInputs.all fun e => !l.watches e || (l.input e).debounced.isSome

/-- What a pin change does to the timer of a watched input with a debounce time above 0 (R28, R30). -/
def Input.pinChanged (debounce : Nat) (high : Bool) (x : Input) : Input :=
  { x with pin := high, timer := if x.debounced = some high then none else some debounce }

/-! ### Drive condition (R34, R37) -/

/-- R37: a change of the lane's drive condition restarts the counting and begins a settling interval of 10 samples. The
start of a drive run clears the no-load flag (R39). -/
def Lane.settleDrive (l : Lane) : Lane :=
  if l.driven = l.sensing.commanded then l
  else
    { l with
      sensing :=
        { l.sensing with
          commanded := l.driven, runCount := 0, settleLeft := 10
          noLoad := if l.driven then false else l.sensing.noLoad } }

/-! ### Drive current (R35-R40) -/

/-- R35: the class of a sample. -/
def classOf (c : LaneSettings) (v : BitVec 12) : CurrentClass :=
  if v.toNat < c.currentLow then .below else if v.toNat ≤ c.currentHigh then .inside else .above

/-- R36: a counted sample, with whether its class is taken at it. A run reaches N once. -/
def Sensing.countSample (x : Sensing) (n : Nat) (k : CurrentClass) : Sensing × Bool :=
  let same := k = x.runClass
  let count := if same then min 15 (x.runCount + 1) else 1
  let taken : Bool := count == n && (!decide same || x.runCount < n)
  ({ x with runClass := k, runCount := count, heldClass := if taken then k else x.heldClass }, taken)

/-- R38 to R40: a taking judged by the pair of class and drive condition. -/
def judgeTaking (i : LaneId) (k : CurrentClass) (s : State) : State :=
  let x := (s.lane i).sensing
  match k, x.commanded with
  | .below, true =>
    if x.noLoad then s
    else
      (raiseOccurrence (.ofLane .sensing i) (s.laneOccurrence .noLoad i none) s).modLane i fun l =>
        { l with sensing := { l.sensing with noLoad := true } }
  | .above, true => raiseLaneFault .sensing i .overload none s
  | .inside, false => raiseLaneFault .sensing i .driveStuck none s
  | .above, false => raiseLaneFault .sensing i .driveStuck none s
  | .below, false => s
  | .inside, true => s

/-- R35 to R37: a sample is taken while the settings are held and the lane is fitted. In a settling interval it is
classed but not counted. -/
def currentSampled (i : LaneId) (v : BitVec 12) (s : State) : State :=
  let l := s.lane i
  if !s.settingsTaken || l.state == .disabled then s
  else if l.sensing.settleLeft ≠ 0 then
    s.setLane i { l with sensing := { l.sensing with settleLeft := l.sensing.settleLeft - 1 } }
  else
    let (x, taken) := l.sensing.countSample (s.conf i).persistence (classOf (s.conf i) v)
    let counted := s.setLane i { l with sensing := x }
    if taken && s.active then judgeTaking i x.heldClass counted else counted

end Sys2Proof.Machine
end

