-- ==== Sys2Proof/Machine/Holds.lean ====
section
/-! DEFINITION. Effective hold (R149-R151) and what closes every command: the change of effective hold is announced, and
the drive conditions are taken. Taking a frame from the receive queue (R182). -/

namespace Sys2Proof.Machine

open Sys2Proof

/-- R139: the lane unit takes the setting of the lane's effective hold for its turnaround. -/
def turnHoldSets (i : LaneId) (s : State) : State :=
  match (s.lane i).state with
  | .draining | .turning => endTurnaround i .held s
  | .running | .faulted | .disabled => s

/-- The blocks of a fitted lane that act on the setting of its effective hold (R149). -/
def holdSetActions (s : State) (i : LaneId) : List (State → State) :=
  let l := s.lane i
  (if l.sEnd.state = .offering ∨ l.sEnd.state = .reserved then [shuttleHoldSets i] else [])
    ++ (if l.lEnd.state = .offering ∨ l.lEnd.state = .reserved then [liftHoldSets i] else [])
    ++ (if l.turnaround.isSome then [turnHoldSets i] else [])

/-- The blocks of a fitted lane that act on the clearing of its effective hold (R150): the ends whose latch is set evaluate their
offers, and the lane unit evaluates a move. -/
def holdClearActions (s : State) (i : LaneId) : List (State → State) :=
  let l := s.lane i
  (if l.sLatch then [shuttleHoldClears i] else [])
    ++ (if l.lLatch then [liftHoldClears i] else [])
    ++ (if l.move.isNone && l.flowing && l.moveCandidate.isSome then [evalMove i] else [])

/-- R149: the announcements of a lane's change of effective hold. A DISABLED lane's is announced to no block. -/
def holdActions (s : State) (i : LaneId) : List (State → State) :=
  let l := s.lane i
  if l.state = .disabled then []
  else if s.holdNow i then holdSetActions s i
  else holdClearActions s i

/-- The lane's effective hold differs from what it follows. -/
def State.holdStale (s : State) (i : LaneId) : Bool := s.holdNow i != (s.lane i).effHold

/-- The effective hold recomputed for both lanes. -/
def State.refreshHolds (s : State) : State :=
  { s with
    lane0 := { s.lane0 with effHold := s.holdNow .lane0 }
    lane1 := { s.lane1 with effHold := s.holdNow .lane1 } }

/-- R149: the announcements that the stale effective holds bring. -/
def State.holdsDue (s : State) : List (State → State) := (bothLanes.filter s.holdStale).flatMap (holdActions s)

/-- The hold and presence unit takes the escalations that wait and recomputes the effective hold of both lanes (R146, R149). What
it announces joins the announcements that are still to be taken, and all of them are taken in either order. -/
def holdsJoin (actions : List (State → State)) (s : State) : State :=
  let t := logEscalations s
  inEitherOrder (actions ++ t.holdsDue) t.refreshHolds

/-- Announcements are taken in either order, and before any of them that finds an escalation waiting, the free choice may stop:
those left, and the state (R157, log entry 6). `fuel` is the number of actions. -/
def takeUntilHold : Nat → List (State → State) → State → List (State → State) × State
  | 0, actions, s => (actions, s)
  | fuel + 1, actions, s =>
    if s.escalationWaits then
      if freeChoice s.choices % 2 = 0 then (actions, { s with choices := s.choices + 1 })
      else
        match takeOne actions { s with choices := s.choices + 1 } with
        | (rest, t) => takeUntilHold fuel rest t
    else
      match takeOne actions s with
      | (rest, t) => takeUntilHold fuel rest t

/-- R149, R156, R157: the blocks take announcements in either order. A change of effective hold that one of them brings by an
escalating fault reaches each block before or after what that block has still to take. -/
def announce (actions : List (State → State)) (s : State) : State :=
  match takeUntilHold actions.length actions s with
  | (rest, t) => holdsJoin rest t

/-- R149: the escalations that wait set the level hold (R163 step 4), the effective hold of both lanes is recomputed, and each
change is announced. A level hold that the announcements themselves escalate to is announced among them (log entry 30). -/
def settleHolds (s : State) : State :=
  let t := logEscalations s
  announce t.holdsDue t.refreshHolds

/-- Takes the drive conditions of both lanes as the change leaves them (R34, R37). -/
def State.settleDrives (s : State) : State :=
  { s with lane0 := s.lane0.settleDrive, lane1 := s.lane1.settleDrive }

/-- What closes a command: changes of effective hold are announced, the fault log takes the occurrences that still wait, the
drive conditions are taken, and the frame in hand is put away. -/
def finish (s : State) : State := { (logAll (settleHolds s)).settleDrives with cause := none }

/-- The outcome of a command whose change is `s`. -/
abbrev done (s : State) : Host.Outcome State Fault Refusal := .next (finish s)

/-- R182: the frame at the head of the receive queue is taken by its owner as one event, in LISTENING and RUNNING. Where
the head is no frame of the kind, the event does not arise and nothing changes (log entry 2). -/
def withFrame (k : FrameKind) (act : Frame → State → State) (s : State) : Host.Outcome State Fault Refusal :=
  match s.active, s.bus.received with
  | true, f :: rest =>
    if f.code = kindCode k then
      done (act f { s with bus := { s.bus with received := rest }, cause := some f.ref })
    else .next s
  | _, _ => .next s

end Sys2Proof.Machine
end

