-- ==== Sys2Proof/Machine/Flags.lean ====
section
/-! DEFINITION. The 3240's own BEACON: every flag and field of its 12 bytes (R186). -/

namespace Sys2Proof.Machine

open Sys2Proof

/-- A lane state's code. -/
def laneStateCode : LaneState → Byte
  | .disabled => 0
  | .running => 1
  | .draining => 2
  | .turning => 3
  | .faulted => 4

/-- Lane byte +0: state, direction and the three holds. A DISABLED lane shows its holds. -/
def beaconLane0 (s : State) (i : LaneId) : Byte :=
  let l := s.lane i
  laneStateCode l.state ||| flagAt (l.state != .disabled && l.dir == .inward) 3 ||| flagAt l.laneHold 4
    ||| flagAt s.levelHold 5 ||| flagAt s.aisleHold 6

/-- Lane byte +1: moving, S-end busy, L-end busy, span, untracked, turning. -/
def beaconLane1 (l : Lane) : Byte :=
  if l.state = .disabled then 0
  else
    flagAt l.move.isSome 0 ||| flagAt l.sBusy 1 ||| flagAt l.lBusy 2 ||| flagAt l.tracker.span 3
      ||| flagAt l.tracker.untracked 4 ||| flagAt l.turnaround.isSome 5

/-- Lane byte +2: occupancy and free count. -/
def beaconLane2 (l : Lane) : Byte :=
  if l.state = .disabled then 0
  else
    flagAt (l.recordAt 0).isSome 0 ||| flagAt (l.recordAt 1).isSome 1 ||| flagAt (l.recordAt 2).isSome 2
      ||| flagAt (l.recordAt 3).isSome 3 ||| (BitVec.ofNat 8 (l.n - l.queue.length) <<< 4)

/-- Lane bytes +3 and +4: the low 16 bits of the head's tote id (R8). -/
def beaconHead (l : Lane) : BitVec 16 :=
  if l.state = .disabled then BitVec.allOnes 16
  else
    match l.queue.head? with
    | some t => (toteIdCode t.id).setWidth 16
    | none => BitVec.allOnes 16

/-- A lane's five bytes. -/
def beaconLane (s : State) (i : LaneId) : List Byte :=
  [beaconLane0 s i, beaconLane1 (s.lane i), beaconLane2 (s.lane i)] ++ wordBytes (beaconHead (s.lane i))

/-- R170: the fault summary flag is set while the first-fault record is filled. -/
def State.faultSummary (s : State) : Bool := s.log.first.isSome

/-- R186: the BEACON's payload. -/
def beaconPayload (s : State) : List Byte :=
  [flagAt (s.node == .running) 0 ||| flagAt s.faultSummary 1 ||| flagAt s.defaulted 2,
   BitVec.ofNat 8 s.holders.length ||| flagAt s.overflow 4]
    ++ beaconLane s .lane0 ++ beaconLane s .lane1

end Sys2Proof.Machine
end

