-- ==== Sys2Proof/Machine/Presence.lean ====
section
/-! DEFINITION. The presence table (R152-R157): refresh, service state, silence, and the announcements of a change. The
meaning of SILENCE_TIMER_EXPIRY. -/

namespace Sys2Proof.Machine

open Sys2Proof

/-- R156: the three changes that are announced. -/
inductive PeerChange where
  | available
  | unavailable
  | lost
  deriving DecidableEq, Repr

/-- R156: what a change of an entry announces. -/
def peerChange (old new : Peer) : Option PeerChange :=
  if new.state = .lost ∧ old.state ≠ .lost then some .lost
  else if !old.available && new.available then some .available
  else if old.available && !new.available then some .unavailable
  else none

/-- R107: the lift-end engine's part in a change of its lift. -/
def liftPeerAction (i : LaneId) (c : PeerChange) (s : State) : State :=
  match c with
  | .available => evalLift i s
  | .unavailable => liftUnavailable i s
  | .lost => liftLost i s

/-- R81: a shuttle-end engine's part in a change of the shuttle. -/
def shuttlePeerAction (i : LaneId) (c : PeerChange) (s : State) : State :=
  match c with
  | .available => evalShuttle i s
  | .unavailable => shuttleUnavailable i s
  | .lost => shuttleLost i s

/-- R140: the other partner goes LOST in TURNING, and the turnaround ends with TIMEOUT. -/
def turnPeerLost (i : LaneId) (s : State) : State :=
  match (s.lane i).state with
  | .turning => endTurnaround i .timeout s
  | .running | .draining | .faulted | .disabled => s

/-- Whether a shuttle-end engine has anything to do on a change of the shuttle. -/
def shuttleHears (l : Lane) (c : PeerChange) : Bool :=
  match c with
  | .available => l.dir == .inward && l.sEnd.state == .idle && (l.recordAt 0).isSome
  | .unavailable => l.sEnd.state == .offering
  | .lost => l.sEnd.state == .offering || l.sEnd.state == .reserved

/-- Whether a lift-end engine has anything to do on a change of its lift. -/
def liftHears (l : Lane) (c : PeerChange) : Bool :=
  match c with
  | .available => l.dir == .outward && (l.recordAt (l.n - 1)).isSome
  | .unavailable => l.lEnd.state == .offering
  | .lost => l.lEnd.state == .offering || l.lEnd.state == .reserved

/-- R156, R140: the lane unit of a lane whose turnaround names the peer as the other partner. -/
def turnHears (l : Lane) (i : LaneId) (p : PeerId) (c : PeerChange) : Bool :=
  c == .lost && l.state == .turning &&
    match l.turnaround with
    | some t => partnerPeer i t.requester.other == p
    | none => false

/-- R156: the blocks of a lane that act on a change of a peer. -/
def peerActions (s : State) (p : PeerId) (c : PeerChange) (i : LaneId) : List (State → State) :=
  let l := s.lane i
  (if p = .shuttle ∧ shuttleHears l c then [shuttlePeerAction i c] else [])
    ++ (if p = liftPeer i ∧ liftHears l c then [liftPeerAction i c] else [])
    ++ (if turnHears l i p c then [turnPeerLost i] else [])

/-- R156, R157: a change of a peer is announced to the blocks that read it, in either order among themselves and with a change of
effective hold that comes of it. -/
def announcePeer (p : PeerId) (c : PeerChange) (s : State) : State :=
  announce (bothLanes.flatMap (peerActions s p c)) s

/-- The state with an entry replaced, the change it makes announced. -/
def changePeer (p : PeerId) (new : Peer) (s : State) : State :=
  match peerChange (s.peer p) new with
  | some c => announcePeer p c (s.setPeer p new)
  | none => s.setPeer p new

/-- R154: an entry goes LATE when 3 beacon periods pass, and LOST when 8 pass, 5 more. -/
def latePeriods : Nat := 3

/-- R154: the beacon periods from LATE to LOST. -/
def lostPeriods : Nat := 5

/-- R153, R155: an entry refreshed, with the service state a BEACON of a lift or the shuttle carries. -/
def Peer.refresh (x : Peer) (period : Nat) (service : Option Bool) : Peer :=
  { state := .present, inService := service.getD x.inService, timer := some (latePeriods * period) }

/-- R152: the peers whose BEACON gives a service state. -/
def PeerId.hasService : PeerId → Bool
  | .liftA | .liftB | .shuttle => true
  | .front4 | .front5 | .front6 | .front7 => false

/-- R155: the service state of a received frame, from a BEACON of a lift or of the level's shuttle. -/
def serviceOf (p : PeerId) (k : FrameKind) (f : Frame) : Option Bool :=
  if k = .beacon ∧ PeerId.hasService p then some ((f.byte 0).getLsbD 0) else none

/-- R153: a frame that passed the class and length checks refreshes its source's entry, if the id is tracked. -/
def refreshPresence (k : FrameKind) (f : Frame) (s : State) : State :=
  match s.peerOf f.src with
  | some p => changePeer p ((s.peer p).refresh s.settings.beaconPeriod (serviceOf p k f)) s
  | none => s

/-- R154: the silence timer of an entry expires. PEER_LOST and the announced effects are of separate blocks. -/
def silenceExpires (p : PeerId) (s : State) : State :=
  let x := s.peer p
  match x.state, x.timer with
  | .present, some _ => changePeer p { x with state := .late, timer := some (lostPeriods * s.settings.beaconPeriod) } s
  | .late, some _ =>
    let o := s.nodeOccurrence .peerLost (some ((s.peerId p).setWidth 32))
    changePeer p { state := .lost, inService := false, timer := none } (raiseOccurrence .presence o s)
  | _, _ => s

/-- SILENCE_TIMER_EXPIRY (R154). -/
def execSilenceTimerExpiry (p : PeerId) (s : State) : Host.Outcome State Fault Refusal := done (silenceExpires p s)

end Sys2Proof.Machine
end

