-- ==== Sys2Proof/Machine/Bus.lean ====
section
/-! DEFINITION. The bus link (Chapter 10): beacons (R177), attempts to send (R175, R176), and the receive path (R178-R182).
The meanings of BEACON_TIMER_EXPIRY, TX_ATTEMPT_START, TX_SENT, ARBITRATION_LOST, TX_MISMATCH and FRAME_RECEIVED. -/

namespace Sys2Proof.Machine

open Sys2Proof

/-! ### Beacons (R177) -/

/-- A frame is a BEACON. -/
def Frame.isBeacon (f : Frame) : Bool := f.code == kindCode .beacon

/-- The frames of the routine queue whose attempt is in progress: its head, or none. -/
def BusLink.routineSending (b : BusLink) : Nat := if b.attempt = some .routine then 1 else 0

/-- The BEACON nearest the tail replaced by another, none where the frames hold no BEACON. -/
def replaceLastBeacon (new : Frame) : List Frame → Option (List Frame)
  | [] => none
  | f :: rest =>
    match replaceLastBeacon new rest with
    | some rest' => some (f :: rest')
    | none => if f.isBeacon then some (new :: rest) else none

/-- R177: a BEACON produced replaces the waiting one nearest the tail in place, its attempt count becoming 0, or is
appended, or dropped with TX_OVERFLOW. -/
def queueBeacon (new : Frame) (s : State) : State :=
  let sending := s.bus.routineSending
  match replaceLastBeacon new (s.bus.routine.drop sending) with
  | some waiting =>
    let routine := s.bus.routine.take sending ++ waiting
    let headReplaced := sending == 0 && !(s.bus.routine.drop 1).any (·.isBeacon)
    { s with bus := { s.bus with
        routine := routine
        routineTries := if headReplaced then 0 else s.bus.routineTries } }
  | none => appendFrame new s

/-- R87: the L-end's re-announcement of a standing offer, with the record's current fields. -/
def reofferLift (i : LaneId) (slot : Slot) (k : Nat) (s : State) : State :=
  match (s.lane i).recordAt k with
  | some t => appendFrame (s.offerFrame i .liftEnd slot t.lateFlag t) s
  | none => s

/-- R87: an OFFERING lift-end engine appends its head OFFER again, and then its second. -/
def reannounceLift (i : LaneId) (s : State) : State :=
  let l := s.lane i
  let one := if l.lEnd.head.isSome then reofferLift i .head (l.n - 1) s else s
  if l.lEnd.second.isSome then reofferLift i .second (l.n - 2) one else one

/-- R74: an OFFERING shuttle-end engine appends its OFFER again. -/
def reannounceShuttle (i : LaneId) (s : State) : State :=
  match (s.lane i).recordAt 0 with
  | some t => appendFrame (s.offerFrame i .shuttleEnd .head false t) s
  | none => s

/-- R177: the ends that re-announce their standing offers. -/
def reannounceActions (s : State) (i : LaneId) : List (State → State) :=
  let l := s.lane i
  (if l.lEnd.state = .offering then [reannounceLift i] else [])
    ++ (if l.sEnd.state = .offering then [reannounceShuttle i] else [])

/-- R177: a BEACON is produced from the node's state, and announced to the end engines of both lanes. -/
def produceBeacon (s : State) : State :=
  let queued := queueBeacon (s.frame 6 .beacon (beaconPayload s)) s
  inEitherOrder (bothLanes.flatMap (reannounceActions s)) queued

/-- R177, R191: the beacon timer expires. At the second expiry after LISTENING began the node enters RUNNING before that
BEACON is built. -/
def beaconExpires (s : State) : State :=
  match s.active, s.bus.beaconTimer with
  | true, some _ =>
    let restarted := { s with bus := { s.bus with beaconTimer := some s.settings.beaconPeriod } }
    let stepped :=
      if s.node = .listening then
        if 1 ≤ s.listenExpiries then { restarted with node := .running, listenExpiries := s.listenExpiries + 1 }
        else { restarted with listenExpiries := s.listenExpiries + 1 }
      else restarted
    produceBeacon stepped
  | _, _ => s

/-- BEACON_TIMER_EXPIRY (R177). -/
def execBeaconTimerExpiry (s : State) : Host.Outcome State Fault Refusal := done (beaconExpires s)

/-! ### Sending (R175, R176) -/

/-- The frames of a transmit queue. -/
def BusLink.queue (b : BusLink) : TxQueue → List Frame
  | .urgent => b.urgent
  | .routine => b.routine

/-- The attempt count of a queue's head frame. -/
def BusLink.tries (b : BusLink) : TxQueue → Nat
  | .urgent => b.urgentTries
  | .routine => b.routineTries

/-- The bus link with the attempt count of a queue's head set. -/
def BusLink.setTries (b : BusLink) (q : TxQueue) (n : Nat) : BusLink :=
  match q with
  | .urgent => { b with urgentTries := n }
  | .routine => { b with routineTries := n }

/-- The head frame leaves its queue, and the next becomes head with attempt count 0 (R175). -/
def BusLink.dropHead (b : BusLink) (q : TxQueue) : BusLink :=
  match q with
  | .urgent => { b with urgent := b.urgent.drop 1, urgentTries := 0 }
  | .routine => { b with routine := b.routine.drop 1, routineTries := 0 }

/-- R175: the bus link begins an attempt with the urgent head, or with the routine head where the urgent queue is empty.
The line is idle: that is what the event says. -/
def attemptStarts (s : State) : State :=
  match s.active, s.bus.attempt with
  | true, none =>
    if !s.bus.urgent.isEmpty then { s with bus := { s.bus with attempt := some .urgent } }
    else if !s.bus.routine.isEmpty then { s with bus := { s.bus with attempt := some .routine } }
    else s
  | _, _ => s

/-- TX_ATTEMPT_START (R175). -/
def execTxAttemptStart (s : State) : Host.Outcome State Fault Refusal := .next (attemptStarts s)

/-- R175: the frame is sent whole and leaves its queue. -/
def attemptSent (s : State) : State :=
  match s.bus.attempt with
  | some q => { s with bus := { s.bus.dropHead q with attempt := none } }
  | none => s

/-- TX_SENT (R175). -/
def execTxSent (s : State) : Host.Outcome State Fault Refusal := .next (attemptSent s)

/-- R175, R176: arbitration is lost. The frame and its count stand. -/
def attemptLost (s : State) : State :=
  match s.bus.attempt with
  | some _ => { s with bus := { s.bus with attempt := none } }
  | none => s

/-- ARBITRATION_LOST (R176). -/
def execArbitrationLost (s : State) : Host.Outcome State Fault Refusal := .next (attemptLost s)

/-- R175: the mismatches after which a frame is given up. -/
def maxTries : Nat := 3

/-- R175, R176: a mismatch ends the attempt and is counted. At the third the frame leaves its queue with TX_FAIL. -/
def attemptMismatch (s : State) : State :=
  match s.bus.attempt with
  | some q =>
    if maxTries ≤ s.bus.tries q + 1 then
      let gone := { s with bus := { s.bus.dropHead q with attempt := none } }
      match (s.bus.queue q).head? with
      | some f => raiseLinkFault .txFail f.ref gone
      | none => gone
    else { s with bus := { s.bus.setTries q (s.bus.tries q + 1) with attempt := none } }
  | none => s

/-- TX_MISMATCH (R176). -/
def execTxMismatch (s : State) : Host.Outcome State Fault Refusal := done (attemptMismatch s)

/-! ### The receive path (R178-R182) -/

/-- R179: the class of a frame is the class of its kind, or of the end its payload names. -/
def classOk (k : FrameKind) (f : Frame) : Bool :=
  match kindClass k with
  | some c => f.cls == c
  | none => f.cls == endClass f.laneEnd

/-- R179: the kind of a frame, none where it is malformed. -/
def checkedKind (f : Frame) : Option FrameKind :=
  match kindOfCode f.code with
  | some k => if kindLengthOk k f.src f.payload.length && classOk k f then some k else none
  | none => none

/-- R180: the ids whose maintenance frames are taken. -/
def frontEnd (src : NodeId) : Bool := src == 4 || src == 5 || src == 6 || src == 7

/-- R181: the acceptance filter. -/
def acceptedHere (s : State) (k : FrameKind) (f : Frame) : Bool :=
  kindOwned k && (!kindLevelAddressed k || f.byte 0 == s.levelByte)

/-- R182: a frame that passes the filter joins the receive queue, or is dropped with RX_OVERFLOW. -/
def enqueueReceived (f : Frame) (s : State) : State :=
  if s.bus.received.length < rxCapacity then
    { s with bus := { s.bus with received := s.bus.received ++ [f] } }
  else raiseLinkFault .rxOverflow f.ref s

/-- R180, R181: access and acceptance, for a frame that is no BEACON. -/
def admitFrame (k : FrameKind) (f : Frame) (s : State) : State :=
  if kindMaintenance k && !frontEnd f.src then raiseLinkFault .access f.ref s
  else if acceptedHere s k f then enqueueReceived f s
  else s

/-- R179 to R182: a frame that arrived whole. The presence table is refreshed between the second and third steps. -/
def wholeFrame (f : Frame) (s : State) : State :=
  match checkedKind f with
  | none => raiseLinkFault .rxMalformed f.ref s
  | some k =>
    let refreshed := refreshPresence k f { s with cause := some f.ref }
    if k = .beacon then refreshed else admitFrame k f refreshed

/-- R178: a frame from another node is taken off the line, in LISTENING and RUNNING. -/
def frameArrives (line : List Bool) (s : State) : State :=
  if s.active then
    match receiveLine line with
    | .badLength ref => raiseLinkFault .rxMalformed ref s
    | .broken ref => raiseLinkFault .rxCrc ref s
    | .whole f => wholeFrame f s
  else s

/-- FRAME_RECEIVED (R178). -/
def execFrameReceived (line : List Bool) (s : State) : Host.Outcome State Fault Refusal := done (frameArrives line s)

end Sys2Proof.Machine
end

