-- ==== Sys2Proof/Machine/Handover.lean ====
section
/-! DEFINITION. The meanings of the handover frames (PUT, FETCH, TAKE, GIVE, ALIGNED, ABORT) and of the lane timers (Chapters
1, 4, 5 and 6). Each is its block's own reaction, closed as every command is. -/

namespace Sys2Proof.Machine

open Sys2Proof

/-- PUT (R66). -/
def execPut (s : State) : Host.Outcome State Fault Refusal := withFrame .put takePut s

/-- FETCH (R76). -/
def execFetch (s : State) : Host.Outcome State Fault Refusal := withFrame .fetch takeFetch s

/-- TAKE (R91). -/
def execTake (s : State) : Host.Outcome State Fault Refusal := withFrame .take takeTake s

/-- GIVE (R94). -/
def execGive (s : State) : Host.Outcome State Fault Refusal := withFrame .give takeGive s

/-- ALIGNED (R96). -/
def execAligned (s : State) : Host.Outcome State Fault Refusal := withFrame .aligned takeAligned s

/-- ABORT (R100). -/
def execAbort (s : State) : Host.Outcome State Fault Refusal := withFrame .abort takeAbort s

/-- MOVE_TIMER_EXPIRY (R16). -/
def execMoveTimerExpiry (i : LaneId) (s : State) : Host.Outcome State Fault Refusal := done (moveTimerExpires i s)

/-- PUT_WINDOW_EXPIRY (R70). -/
def execPutWindowExpiry (i : LaneId) (s : State) : Host.Outcome State Fault Refusal := done (putWindowExpires i s)

/-- ENTRY_TIMER_EXPIRY (R71). -/
def execEntryTimerExpiry (i : LaneId) (s : State) : Host.Outcome State Fault Refusal := done (entryTimerExpires i s)

/-- FETCH_WINDOW_EXPIRY (R78). -/
def execFetchWindowExpiry (i : LaneId) (s : State) : Host.Outcome State Fault Refusal :=
  done (fetchWindowExpires i s)

/-- ALIGN_WINDOW_EXPIRY (R98). -/
def execAlignWindowExpiry (i : LaneId) (s : State) : Host.Outcome State Fault Refusal :=
  done (alignWindowExpires i s)

/-- STALL_TIMER_EXPIRY (R125). -/
def execStallTimerExpiry (i : LaneId) (s : State) : Host.Outcome State Fault Refusal := done (stallExpires i s)

/-- TRANSFER_TIMER_EXPIRY (R127). -/
def execTransferTimerExpiry (i : LaneId) (s : State) : Host.Outcome State Fault Refusal := done (transferExpires i s)

end Sys2Proof.Machine
end

