-- ==== Sys2Proof/Machine/HoldFrames.lean ====
section
/-! DEFINITION. The hold frames (R144-R148): the meanings of LANE_HOLD, LANE_RELEASE, AISLE_HOLD and AISLE_RELEASE. The
effective hold they change is announced as the command closes (R149, in `finish`). -/

namespace Sys2Proof.Machine

open Sys2Proof

/-- R144, R169: the REPLY of the node to a maintenance frame: the L-end, lane 0, count 0 and no tote id. -/
def State.nodeReply (s : State) (request : FrameKind) : Frame := s.replyFrame .lane0 .liftEnd request .accepted 0 none

/-- The lane holds of the lanes that a mask names, set or cleared. -/
def setLaneHolds (f : Frame) (b : Bool) (s : State) : State :=
  { s with
    lane0 := { s.lane0 with laneHold := if f.maskHas .lane0 then b else s.lane0.laneHold }
    lane1 := { s.lane1 with laneHold := if f.maskHas .lane1 then b else s.lane1.laneHold } }

/-- R144: a LANE HOLD from the receive queue. -/
def takeLaneHold (f : Frame) (s : State) : State := appendFrame (s.nodeReply .laneHold) (setLaneHolds f true s)

/-- LANE_HOLD (R144). -/
def execLaneHold (s : State) : Host.Outcome State Fault Refusal := withFrame .laneHold takeLaneHold s

/-- R145: a mask that names both lanes clears the level hold too. -/
def clearLevelHold (f : Frame) (s : State) : State :=
  { s with levelHold := s.levelHold && !(f.maskHas .lane0 && f.maskHas .lane1) }

/-- R145: a LANE RELEASE from the receive queue. -/
def takeLaneRelease (f : Frame) (s : State) : State :=
  appendFrame (s.nodeReply .laneRelease) (clearLevelHold f (setLaneHolds f false s))

/-- LANE_RELEASE (R145). -/
def execLaneRelease (s : State) : Host.Outcome State Fault Refusal := withFrame .laneRelease takeLaneRelease s

/-- R143: the capacity of the holder set. -/
def holderCapacity : Nat := 8

/-- R147: an AISLE HOLD from the receive queue. -/
def takeAisleHold (f : Frame) (s : State) : State :=
  if s.holders.contains f.src then s
  else if s.holders.length < holderCapacity then { s with holders := s.holders ++ [f.src] }
  else raiseOccurrence .holds (s.nodeOccurrence .holderOverflow none) { s with overflow := true }

/-- AISLE_HOLD (R147). -/
def execAisleHold (s : State) : Host.Outcome State Fault Refusal := withFrame .aisleHold takeAisleHold s

/-- The all flag of an AISLE RELEASE: bit 0 of byte 0 (R184). -/
def Frame.allFlag (f : Frame) : Bool := (f.byte 0).getLsbD 0

/-- R148: an AISLE RELEASE from the receive queue. -/
def takeAisleRelease (f : Frame) (s : State) : State :=
  if f.allFlag then { s with holders := [], overflow := false }
  else { s with holders := s.holders.filter (· != f.src) }

/-- AISLE_RELEASE (R148). -/
def execAisleRelease (s : State) : Host.Outcome State Fault Refusal := withFrame .aisleRelease takeAisleRelease s

end Sys2Proof.Machine
end

