-- ==== Sys2Proof/Machine/Maintenance.lean ====
section
/-! DEFINITION. The maintenance frames of a lane and of the fault log: the meanings of LANE_RESET (R25), FAULT_CLEAR (R169)
and FAULT_QUERY (R167), and the inventory that LANE RESET and the end of LOADING share (R24, R25). -/

namespace Sys2Proof.Machine

open Sys2Proof

/-! ### Inventory (R6, R24, R25) -/

/-- A lane's positions, from the exit position toward the entry position (R24). -/
def Lane.positionsFromExit (l : Lane) : List Nat :=
  if l.dir = .outward then (List.range l.n).reverse else List.range l.n

/-- R6: an unknown record. -/
def Lane.unknownTote (l : Lane) (k : Nat) : Tote :=
  { id := none, kind := if l.dir = .outward then .loose else .inbound, len := .long, pos := k, state := .seated
    cls := none, advised := false }

/-- R24, R25: what inventory leaves at a position. An unknown record is classed LOOSE in an OUT lane, which raises
nothing. -/
def State.inventoryAt (s : State) (i : LaneId) (k : Nat) : Option Tote :=
  let l := s.lane i
  match l.stopBlocked k, l.recordAt k with
  | true, some t => some t.seat
  | true, none => some (s.classCreated i (l.unknownTote k))
  | false, _ => none

/-- The queue that inventory leaves, in physical order from the exit end. -/
def State.inventory (s : State) (i : LaneId) : List Tote := (s.lane i).positionsFromExit.filterMap (s.inventoryAt i)

/-- R25: the records that inventory removes. -/
def Lane.inventoryDrops (l : Lane) : List Tote := l.queue.filter fun t => !l.stopBlocked t.pos

/-! ### LANE RESET (R25) -/

/-- R25 step 2: the END ABORTED of each handover in hand, the L-end's first. -/
def abortEnds (i : LaneId) (s : State) : State :=
  let l := s.lane i
  let s1 :=
    match l.lBusy, l.lEnd.hand with
    | true, some h => appendFrame (s.liftEndFrame i .aborted h) s
    | _, _ => s
  match l.sBusy, l.sEnd.hand with
  | true, some h => appendFrame (s.shuttleEndFrame i .aborted h) s1
  | _, _ => s1

/-- R25 steps 1 to 3: the move, the zones, both ends with their offers, and the turnaround. -/
def resetActivities (i : LaneId) (s : State) : State :=
  let s1 := s.modLane i fun l => { l.stopZones with move := none, moveTimer := none }
  let s2 := withdrawShuttle i (withdrawLift i (abortEnds i s1))
  cancelTurnaround i (s2.modLane i fun l => l.sIdle.lIdle)

/-- R25 step 4, R129, R151: the tracker and the two latches. -/
def Lane.resetLatches (l : Lane) : Lane := { l with tracker := .initial, sLatch := false, lLatch := false }

/-- R25 step 5: inventory, with LOST_TOTE for each record removed but an ENTERING one, and each removal announced. The
lane is RUNNING (step 6). -/
def resetInventory (i : LaneId) (s : State) : State :=
  let drops := (s.lane i).inventoryDrops
  let placed := s.modLane i fun l => { l with queue := s.inventory i, state := .running }
  let lost := (drops.filter (·.state != .entering)).map fun t => s.laneOccurrence .lostTote i t.id
  drops.foldl (fun t r => announceRemoval r t) (lost.foldl (fun t o => raiseOccurrence (.ofLane .laneUnit i) o t) placed)

/-- R184: the REPLY to a LANE RESET names its lane. R25 and R184 give its count field no value. It is 0: DESIGN CHOICE
(log entry 47). -/
def State.resetReply (s : State) (i : LaneId) (v : Verdict) : Frame := s.replyFrame i .liftEnd .laneReset v 0 none

/-- R25: the reset is accepted. The drive condition is taken as the reset leaves it, before a move may start
(R41, log entry 27). -/
def acceptReset (i : LaneId) (s : State) : State :=
  let s1 := resetInventory i ((resetActivities i s).modLane i Lane.resetLatches)
  let s2 := (appendFrame (s1.resetReply i .accepted) s1).modLane i Lane.settleDrive
  evalLift i (evalShuttle i (evalMove i s2))

/-- R25: a LANE RESET from the receive queue. -/
def takeLaneReset (f : Frame) (s : State) : State :=
  let i := f.lane
  let l := s.lane i
  if l.state = .disabled then appendFrame (s.resetReply i .outOfService) s
  else if l.blocked .sSill || l.blocked .lSill then appendFrame (s.resetReply i .sillBlocked) s
  else acceptReset i s

/-- LANE_RESET (R25). -/
def execLaneReset (s : State) : Host.Outcome State Fault Refusal := withFrame .laneReset takeLaneReset s

/-! ### FAULT CLEAR and FAULT QUERY (R167-R169) -/

/-- R169: a FAULT CLEAR from the receive queue. -/
def takeFaultClear (_f : Frame) (s : State) : State :=
  appendFrame (s.nodeReply .faultClear) { s with log := clearLog s.log }

/-- FAULT_CLEAR (R169). -/
def execFaultClear (s : State) : Host.Outcome State Fault Refusal := withFrame .faultClear takeFaultClear s

/-- R167, R168: a FAULT QUERY from the receive queue. -/
def takeFaultQuery (f : Frame) (s : State) : State := answerQuery (f.byte 1).toNat s

/-- FAULT_QUERY (R167). -/
def execFaultQuery (s : State) : Host.Outcome State Fault Refusal := withFrame .faultQuery takeFaultQuery s

end Sys2Proof.Machine
end

