-- ==== Sys2Proof/Machine/Starting.lean ====
section
/-! DEFINITION. Start-up (Chapter 11): the end of LOADING, the hand-over of the settings and what a reset leaves. The
meanings of POWER_ON, RESET_PIN, NODE_RESET and SETTINGS_READ_DONE. -/

namespace Sys2Proof.Machine

open Sys2Proof

/-! ### The end of LOADING (R24, R190, R191) -/

/-- R24: whether inventory finds a sill of a fitted lane blocked. -/
def Lane.sillFound (l : Lane) : Bool := l.state != .disabled && (l.blocked .sSill || l.blocked .lSill)

/-- R24: what inventory at the end of LOADING makes of a lane. -/
def State.inventoried (s : State) (i : LaneId) : Lane :=
  let l := s.lane i
  if l.state = .disabled then l
  else if l.sillFound then { l with state := .faulted }
  else { l with queue := s.inventory i }

/-- R24: a lane whose sill inventory found blocked, FAULTED already, raises SILL_BLOCKED. -/
def reportSill (i : LaneId) (s : State) : State :=
  if (s.lane i).sillFound then raiseLaneFault .laneUnit i .sillBlocked none s else s

/-- R24: each fitted lane is inventoried, and the fault log takes what is raised while the node is still LOADING (R166), the
faults of the two lanes in either order (R163). A level hold that one escalates to holds both lanes from then on (R146). -/
def inventoryLanes (s : State) : State :=
  let placed := { s with lane0 := s.inventoried .lane0, lane1 := s.inventoried .lane1 }
  settleHolds (logAll (bothLanes.foldl (fun t i => reportSill i t) placed))

/-- R191: a lane's evaluations as the node enters LISTENING. -/
def evaluateLane (i : LaneId) (s : State) : State := evalLift i (evalShuttle i (evalMove i s))

/-- R191: the node enters LISTENING: the beacon timer starts, the first BEACON is produced, and the lanes are evaluated
(log entry 9). -/
def enterListening (s : State) : State :=
  let listening :=
    { s with
      node := .listening, listenExpiries := 0
      bus := { s.bus with beaconTimer := some s.settings.beaconPeriod } }
  announce (bothLanes.map evaluateLane) (produceBeacon listening)

/-- R30: every watched input of every fitted lane is settled. -/
def State.allSettled (s : State) : Bool := s.lane0.settled && s.lane1.settled

/-- R190 steps 4 to 6: LOADING ends once every input is settled. -/
def tryEndLoading (s : State) : State :=
  if s.node == .loading && s.settingsTaken && s.allSettled then enterListening (inventoryLanes s) else s

/-! ### The hand-over of the settings (R1, R30, R189, R190) -/

/-- R1: the direction a lane starts in. -/
def startDir (c : LaneSettings) : Dir :=
  match c.kind with
  | .outOnly => .outward
  | .inOnly => .inward
  | .reversible => c.initialDir

/-- R30: settling begins for the watched inputs of a lane. -/
def Lane.settleInputs (l : Lane) (debounce : Nat) : Lane :=
  allInputs.foldl (fun m e => if m.watches e then m.setInput e ((m.input e).beginSettling debounce) else m) l

/-- R1: a lane is fitted with its settings in force, its lane hold set where the block was rejected (R189), or is
DISABLED. -/
def Lane.fit (l : Lane) (fitted : Bool) (c : LaneSettings) (debounce : Nat) (rejected : Bool) : Lane :=
  if fitted then
    Lane.settleInputs
      { l with state := .running, kind := c.kind, n := c.positions, dir := startDir c, laneHold := rejected } debounce
  else { l with state := .disabled }

/-- R162: the mask and escalate settings, handed to the fault log. -/
def FaultLog.configure (g : FaultLog) (c : Settings) : FaultLog :=
  { g with
    kinds := eachOf
      (fun j k => { k with masked := c.mask.getLsbD j, escalate := decide (j < 13) && c.escalate.getLsbD j }) g.kinds }

/-- R190 step 3: the settings in force are handed to every block in one change. -/
def handOver (c : Settings) (rejected : Bool) (s : State) : State :=
  let taken :=
    { s with
      settings := c, settingsTaken := true, defaulted := rejected, log := s.log.configure c
      lane0 := s.lane0.fit (strapFits s.straps .lane0) c.lane0 c.debounce rejected
      lane1 := s.lane1.fit (strapFits s.straps .lane1) c.lane1 c.debounce rejected }
  if rejected then raiseOccurrence .startUp (taken.nodeOccurrence .configDefaulted none) taken else taken

/-- R190 steps 2 and 3: the settings in force are those of an accepted block, or the defaults where there is none (R189). -/
def takeSettings (accepted : Option Settings) (s : State) : State :=
  tryEndLoading
    (match accepted with
     | some c => handOver c false s
     | none => handOver defaultSettings true s)

/-- R188, R189: the block is read and checked, once in each LOADING. -/
def settingsRead (block : List Byte) (s : State) : State :=
  if s.node == .loading && !s.settingsTaken then takeSettings (readSettings block s.straps) s else s

/-- SETTINGS_READ_DONE (R188). -/
def execSettingsReadDone (block : List Byte) (s : State) : Host.Outcome State Fault Refusal :=
  done (settingsRead block s)

/-! ### Reset (R190, R192) -/

/-- A lane after reset, fitted or not. The levels of its pins are the world's and stand (log entry 12). -/
def Lane.afterReset (l : Lane) (fitted : Bool) : Lane :=
  { Lane.initial fitted with
    encA := l.encA, encB := l.encB
    sensing := .initial (inputsAtReset (eachOf (fun _ x => x.pin) l.sensing.inputs) fitted) }

/-- R190, R192: every block takes its state after reset, with these strap values. What stands is the world's: the pins, the
commands waiting and the choices made (log entries 6 and 12). The settings-defaulted flag stands too, for it clears only
at a start that accepts a block (R189, log entry 43). -/
def State.afterReset (s : State) (straps : Straps) : State :=
  { State.reset with
    resetLow := s.resetLow, straps := straps, defaulted := s.defaulted
    lane0 := s.lane0.afterReset (strapFits straps .lane0), lane1 := s.lane1.afterReset (strapFits straps .lane1)
    choices := s.choices, pending := s.pending }

/-- R192: the node held in reset while the RESET pin is low. R187 reads the straps at the release. Until then the values
last read stand: DESIGN CHOICE (log entry 46). -/
def State.heldInReset (s : State) : State := { s.afterReset s.straps with node := .held, resetLow := true }

/-- R187, R190: LOADING begins. The straps are read, and every block is in its state after reset. With MEMORY low no block
is read, and the defaults are taken in the same change (R189). -/
def State.beginLoading (s : State) (straps : Straps) : State :=
  let fresh := { s.afterReset straps with node := .loading, resetLow := false }
  if straps.memory then fresh else takeSettings none fresh

/-- POWER_ON (R190). With the RESET pin low the node is held in reset (R192, log entry 15). -/
def execPowerOn (straps : Straps) (s : State) : Host.Outcome State Fault Refusal :=
  if s.resetLow then .next s.heldInReset else done (s.beginLoading straps)

/-- RESET_PIN (R192): the pin goes low, or a low pin is released and the straps are read. -/
def execResetPin (low : Bool) (straps : Straps) (s : State) : Host.Outcome State Fault Refusal :=
  if low then .next s.heldInReset else if s.resetLow then done (s.beginLoading straps) else .next s

/-- NODE_RESET (R192). It is not answered. -/
def execNodeReset (straps : Straps) (s : State) : Host.Outcome State Fault Refusal :=
  withFrame .nodeReset (fun _ t => t.beginLoading straps) s

end Sys2Proof.Machine
end

