-- ==== Sys2Proof/Machine/Inputs.lean ====
section
/-! DEFINITION. The inputs of the lanes (Chapter 2, R113): the meanings of EYE_PIN_CHANGE, DEBOUNCE_TIMER_EXPIRY,
ENCODER_EDGE and CURRENT_SAMPLE. -/

namespace Sys2Proof.Machine

open Sys2Proof

/-- The state with an input of a lane replaced. -/
def State.putInput (s : State) (i : LaneId) (e : InputId) (x : Input) : State := s.setLane i ((s.lane i).setInput e x)

/-- R28, R29: the pin of a settled input with a debounce time of 0. A level that differs is taken at once. -/
def pinTakenAtOnce (i : LaneId) (e : InputId) (high : Bool) (s : State) : State :=
  let x := (s.lane i).input e
  if x.debounced = some high then s.putInput i e { x with pin := high }
  else passEdge i e high (s.putInput i e { x with pin := high, debounced := some high })

/-- R28 to R30: the pin of an input takes a level. An input that is not watched, or not yet handed its settings, only
shows it (R27, R30). -/
def pinTakesLevel (i : LaneId) (e : InputId) (high : Bool) (s : State) : State :=
  let l := s.lane i
  let x := l.input e
  if !s.settingsTaken || !l.watches e then s.putInput i e { x with pin := high }
  else if s.settings.debounce = 0 && x.debounced.isSome then pinTakenAtOnce i e high s
  else s.putInput i e (x.pinChanged s.settings.debounce high)

/-- EYE_PIN_CHANGE (R28). -/
def execEyePinChange (i : LaneId) (e : InputId) (high : Bool) (s : State) : Host.Outcome State Fault Refusal :=
  done (pinTakesLevel i e high s)

/-- R28, R30: the debounce timer of an input expires. The first state settles the input with no edge; a later change is
passed on as one edge. -/
def debounceExpires (i : LaneId) (e : InputId) (s : State) : State :=
  let x := (s.lane i).input e
  match x.timer, x.debounced with
  | some _, none => tryEndLoading (s.putInput i e x.settle)
  | some _, some d =>
    if d = x.pin then s.putInput i e x.settle else passEdge i e x.pin (s.putInput i e x.settle)
  | none, _ => s

/-- DEBOUNCE_TIMER_EXPIRY (R28). -/
def execDebounceTimerExpiry (i : LaneId) (e : InputId) (s : State) : Host.Outcome State Fault Refusal :=
  done (debounceExpires i e s)

/-- ENCODER_EDGE (R113). -/
def execEncoderEdge (i : LaneId) (e : EncInput) (s : State) : Host.Outcome State Fault Refusal :=
  done (encoderChanges i e s)

/-- CURRENT_SAMPLE (R36). -/
def execCurrentSample (i : LaneId) (v : BitVec 12) (s : State) : Host.Outcome State Fault Refusal :=
  done (currentSampled i v s)

end Sys2Proof.Machine
end

