-- ==== Sys2Proof/Machine/Sequence.lean ====
section
/-! DEFINITION. The frames of the group table (Chapter 3): the meanings of GROUP_OPEN, GROUP_CLOSE and PASSED, and the
reclassification they bring (R59, R60). -/

namespace Sys2Proof.Machine

open Sys2Proof

/-! ### Reclassification (R58-R60) -/

/-- R60: a SEATED record of a position goes from ineligible to eligible. -/
def becameEligible (old new : Lane) (k : Nat) : Bool :=
  match old.recordAt k, new.recordAt k with
  | some t, some t' => t.state == .seated && !t.eligible && t'.eligible
  | _, _ => false

/-- R60: an OFFERED record of a position goes from eligible to ineligible. -/
def becameIneligible (old new : Lane) (k : Nat) : Bool :=
  match old.recordAt k, new.recordAt k with
  | some t, some t' => t.state == .offered && t.eligible && !t'.eligible
  | _, _ => false

/-- R60, R85, R88: the lift-end engine takes the notices of one reclassification. The head is withdrawn with its second,
and else the second alone; a record that became eligible has an offer evaluated. -/
def takeNotices (i : LaneId) (old new : Lane) (s : State) : State :=
  let n := old.n
  let withdrawn :=
    if becameIneligible old new (n - 1) then evalMove i (withdrawLift i s)
    else if becameIneligible old new (n - 2) then evalMove i (withdrawSecond i s)
    else s
  if becameEligible old new (n - 1) || becameEligible old new (n - 2) then evalLift i withdrawn else withdrawn

/-- R60: the notices of a lane, an action only where a record near the exit of an OUT lane changed eligibility. -/
def noticeActions (i : LaneId) (old new : Lane) : List (State → State) :=
  let n := old.n
  if old.dir == .outward
      && ([n - 1, n - 2].any fun k => becameEligible old new k || becameIneligible old new k) then
    [takeNotices i old new]
  else []

/-- What the group table raises for one frame: the advisory of its own steps first, then those of the reclassified
records, whose order the manual leaves open (log entry 39). -/
def raiseAdvisories (early advisories : List Occurrence) (s : State) : State :=
  inEitherOrder (advisories.map (raiseOccurrence .groupTable)) (early.foldl (fun t o => raiseOccurrence .groupTable o t) s)

/-- Both lanes with the records of a group classed against the table as it stands. -/
def State.reclassed (s : State) (g : GroupNo) : State :=
  { s with lane0 := reclassLane s.entryOf g s.lane0, lane1 := reclassLane s.entryOf g s.lane1 }

/-- R58 to R60: the records that carry a group are classed again, the advisories are raised, and the lift-end engines
take their notices. `early` is what the frame's own steps raise before. -/
def reclassify (early : List Occurrence) (g : GroupNo) (s : State) : State :=
  let advisories := bothLanes.flatMap (reclassAdvisories s g)
  let s1 := s.reclassed g
  let notices := bothLanes.flatMap fun i => noticeActions i (s.lane i) (s1.lane i)
  announce notices (raiseAdvisories early advisories s1)

/-! ### GROUP OPEN (R46-R49) -/

/-- R49: the table has no room, and the frame is not entered. -/
def tableFull (s : State) : State := raiseOccurrence .groupTable (s.nodeOccurrence .groupTableFull none) s

/-- R49: the table holds fewer than 16 entries. -/
def State.groupRoom (s : State) : Bool := decide (s.groups.length < groupCapacity)

/-- R45, R47, R48: a GROUP OPEN from the receive queue. -/
def takeGroupOpen (f : Frame) (s : State) : State :=
  let e := openedEntry f
  if e.group = 0 then s
  else
    match s.entryOf e.group with
    | some _ => reclassify [] e.group (s.putEntry e)
    | none => if s.groupRoom then reclassify [] e.group (s.addEntry e) else tableFull s

/-- GROUP_OPEN (R47). -/
def execGroupOpen (s : State) : Host.Outcome State Fault Refusal := withFrame .groupOpen takeGroupOpen s

/-! ### GROUP CLOSE (R50, R51) -/

/-- R45, R50: a GROUP CLOSE from the receive queue. -/
def takeGroupClose (f : Frame) (s : State) : State :=
  let g := f.byte 0
  if g = 0 then s
  else
    match s.entryOf g with
    | none => s
    | some e =>
      match e.state with
      | .closed => removalCheck g s
      | .opened => reclassify [] g (removalCheck g (s.putEntry { e with state := .closed }))

/-- GROUP_CLOSE (R50). -/
def execGroupClose (s : State) : Host.Outcome State Fault Refusal := withFrame .groupClose takeGroupClose s

/-! ### PASSED (R52-R56) -/

/-- R54: the SEQ_RANGE of a passage beyond the mask's reach, judged with the cursor as the merge step left it. -/
def rangeOccurrence (q m : Seq) (e : GroupEntry) (s : State) : List Occurrence :=
  if markOutOfRange q (mergeStep m e) then [s.nodeOccurrence .seqRange none] else []

/-- R52 to R56: the update steps on an OPEN entry of the table, the removal check where it closes, and the
reclassification. -/
def updatePassed (q m : Seq) (e : GroupEntry) (s : State) : State :=
  let e' := passedEntry q m e
  let s1 := s.putEntry e'
  let s2 := if e'.state = .closed then removalCheck e.group s1 else s1
  reclassify (rangeOccurrence q m e s) e.group s2

/-- R45, R52: a PASSED from the receive queue. -/
def takePassed (f : Frame) (s : State) : State :=
  let g := f.byte 0
  let q := f.seq 1
  let m := f.seq 3
  if g = 0 then s
  else
    match s.entryOf g with
    | some e =>
      match e.state with
      | .opened => updatePassed q m e s
      | .closed => s
    | none =>
      if s.groupRoom then
        let e := learnedEntry g m s.settings.groupWindow
        updatePassed q m e (s.addEntry e)
      else tableFull s

/-- PASSED (R52). -/
def execPassed (s : State) : Host.Outcome State Fault Refusal := withFrame .passed takePassed s

end Sys2Proof.Machine
end

