-- ==== Sys2Proof/Machine/Turnaround.lean ====
section
/-! DEFINITION. The turnaround of a reversible lane (Chapter 7): the meanings of TURN, ANSWER, DRAIN_TIMER_EXPIRY and
TURN_TIMER_EXPIRY. -/

namespace Sys2Proof.Machine

open Sys2Proof

/-! ### TURN (R131-R133) -/

/-- R130: the partner of a lane that a source id is. -/
def State.partnerOf (s : State) (i : LaneId) (src : NodeId) : Option Partner :=
  if src = liftId i then some .lift else if src = s.shuttleId then some .shuttle else none

/-- What the checks of a TURN find. -/
inductive TurnCheck where
  | refuse (v : Verdict)
  | same
  | begin (requester : Partner)
  deriving DecidableEq, Repr

/-- R131: the checks of a TURN, in order. -/
def turnCheck (i : LaneId) (f : Frame) (s : State) : TurnCheck :=
  let l := s.lane i
  match s.partnerOf i f.src with
  | none => .refuse .wrongPartner
  | some p =>
    if s.node = .listening then .refuse .starting
    else if l.state ≠ .disabled ∧ l.kind ≠ .reversible then .refuse .fixed
    else if l.state = .disabled ∨ l.state = .faulted then .refuse .outOfService
    else if l.turnaround.isSome then .refuse .busy
    else if f.turnDir l.dir = l.dir then .same
    else if l.effHold then .refuse .held
    else .begin p

/-- R131: the REPLY to a TURN. -/
def State.turnReply (s : State) (i : LaneId) (v : Verdict) : Frame := s.replyFrame i .shuttleEnd .turn v 0 none

/-- R133: the lane DRAINING, its turnaround record created and the drain timer running. -/
def Lane.beginDraining (l : Lane) (p : Partner) (asked : Dir) (drainTime : Nat) : Lane :=
  { l with
    state := .draining
    turnaround := some
      { requester := p, asked := asked, pending := false, drainTimer := some drainTime, turnTimer := none } }

/-- R131 to R133: a TURN from the receive queue. -/
def takeTurn (f : Frame) (s : State) : State :=
  let i := f.lane
  let l := s.lane i
  match turnCheck i f s with
  | .refuse v => appendFrame (s.turnReply i v) s
  | .same => appendFrame (s.turnedFrame i l.dir .turned) (appendFrame (s.turnReply i .accepted) s)
  | .begin p =>
    emptyTest i
      ((appendFrame (s.turnReply i .accepted) s).modLane i fun m =>
        m.beginDraining p (f.turnDir l.dir) s.settings.drainTime)

/-- TURN (R131). -/
def execTurn (s : State) : Host.Outcome State Fault Refusal := withFrame .turn takeTurn s

/-! ### ANSWER (R137) -/

/-- R137: the outcome an ANSWER gives. A code other than yes is no. -/
def Frame.answerOutcome (f : Frame) : TurnOutcome := if f.byte 2 = 1 then .turned else .declined

/-- R137: an ANSWER from the receive queue, acted on in TURNING with a proposal pending and from the other partner. -/
def takeAnswer (f : Frame) (s : State) : State :=
  let i := f.lane
  let l := s.lane i
  match l.state, l.turnaround with
  | .turning, some t =>
    if t.pending && s.partnerOf i f.src == some t.requester.other then endTurnaround i f.answerOutcome s else s
  | _, _ => s

/-- ANSWER (R137). -/
def execAnswer (s : State) : Host.Outcome State Fault Refusal := withFrame .answer takeAnswer s

/-! ### The two timers (R136, R138) -/

/-- R136: the drain timer expires while the lane is DRAINING. -/
def drainExpires (i : LaneId) (s : State) : State :=
  let l := s.lane i
  match l.state, l.turnaround with
  | .draining, some t => if t.drainTimer.isSome then endTurnaround i .timeout s else s
  | _, _ => s

/-- DRAIN_TIMER_EXPIRY (R136). -/
def execDrainTimerExpiry (i : LaneId) (s : State) : Host.Outcome State Fault Refusal := done (drainExpires i s)

/-- R138: the turn timer expires in TURNING. -/
def turnExpires (i : LaneId) (s : State) : State :=
  let l := s.lane i
  match l.state, l.turnaround with
  | .turning, some t => if t.turnTimer.isSome then endTurnaround i .timeout s else s
  | _, _ => s

/-- TURN_TIMER_EXPIRY (R138). -/
def execTurnTimerExpiry (i : LaneId) (s : State) : Host.Outcome State Fault Refusal := done (turnExpires i s)

end Sys2Proof.Machine
end

