-- ==== Sys2Proof/Machine/Dispatch.lean ====
section
/-! DEFINITION. Every command and its meaning. -/

namespace Sys2Proof.Machine

open Sys2Proof

/-- The effect of a command on everything but the queue of commands waiting. -/
def exec (i : Instr) (s : State) : Host.Outcome State Fault Refusal :=
  match i with
  | .powerOn straps => Sys2Proof.Machine.execPowerOn straps s
  | .resetPin low straps => Sys2Proof.Machine.execResetPin low straps s
  | .settingsReadDone block => Sys2Proof.Machine.execSettingsReadDone block s
  | .eyePinChange lane input high => Sys2Proof.Machine.execEyePinChange lane input high s
  | .debounceTimerExpiry lane input => Sys2Proof.Machine.execDebounceTimerExpiry lane input s
  | .encoderEdge lane input => Sys2Proof.Machine.execEncoderEdge lane input s
  | .currentSample lane value => Sys2Proof.Machine.execCurrentSample lane value s
  | .moveTimerExpiry lane => Sys2Proof.Machine.execMoveTimerExpiry lane s
  | .putWindowExpiry lane => Sys2Proof.Machine.execPutWindowExpiry lane s
  | .entryTimerExpiry lane => Sys2Proof.Machine.execEntryTimerExpiry lane s
  | .fetchWindowExpiry lane => Sys2Proof.Machine.execFetchWindowExpiry lane s
  | .alignWindowExpiry lane => Sys2Proof.Machine.execAlignWindowExpiry lane s
  | .stallTimerExpiry lane => Sys2Proof.Machine.execStallTimerExpiry lane s
  | .transferTimerExpiry lane => Sys2Proof.Machine.execTransferTimerExpiry lane s
  | .drainTimerExpiry lane => Sys2Proof.Machine.execDrainTimerExpiry lane s
  | .turnTimerExpiry lane => Sys2Proof.Machine.execTurnTimerExpiry lane s
  | .silenceTimerExpiry peer => Sys2Proof.Machine.execSilenceTimerExpiry peer s
  | .beaconTimerExpiry => Sys2Proof.Machine.execBeaconTimerExpiry s
  | .txAttemptStart => Sys2Proof.Machine.execTxAttemptStart s
  | .txSent => Sys2Proof.Machine.execTxSent s
  | .arbitrationLost => Sys2Proof.Machine.execArbitrationLost s
  | .txMismatch => Sys2Proof.Machine.execTxMismatch s
  | .frameReceived line => Sys2Proof.Machine.execFrameReceived line s
  | .put => Sys2Proof.Machine.execPut s
  | .fetch => Sys2Proof.Machine.execFetch s
  | .take => Sys2Proof.Machine.execTake s
  | .give => Sys2Proof.Machine.execGive s
  | .aligned => Sys2Proof.Machine.execAligned s
  | .abort => Sys2Proof.Machine.execAbort s
  | .turn => Sys2Proof.Machine.execTurn s
  | .answer => Sys2Proof.Machine.execAnswer s
  | .groupOpen => Sys2Proof.Machine.execGroupOpen s
  | .groupClose => Sys2Proof.Machine.execGroupClose s
  | .passed => Sys2Proof.Machine.execPassed s
  | .laneHold => Sys2Proof.Machine.execLaneHold s
  | .laneRelease => Sys2Proof.Machine.execLaneRelease s
  | .aisleHold => Sys2Proof.Machine.execAisleHold s
  | .aisleRelease => Sys2Proof.Machine.execAisleRelease s
  | .laneReset => Sys2Proof.Machine.execLaneReset s
  | .nodeReset straps => Sys2Proof.Machine.execNodeReset straps s
  | .faultClear => Sys2Proof.Machine.execFaultClear s
  | .faultQuery => Sys2Proof.Machine.execFaultQuery s

end Sys2Proof.Machine
end

