-- ==== Sys2Proof/Safety.lean ====
section
/-! DEFINITION. The terms the statements use: what a settled state is, what a reset leaves, the laws every step keeps, what
one lane's event may touch, and the frames on the wire written out from R184. -/

namespace Sys2Proof.Machine

open Sys2Proof

/-! ### States between commands -/

/-- The state of a node between commands: no frame is in hand, the fault log has taken every occurrence, each lane's effective
hold is what R149 makes it, and each lane's drive condition is what R34 makes it. -/
def State.Quiet (s : State) : Prop :=
  s.cause = none ∧ s.unlogged = []
    ∧ (∀ i, (s.lane i).effHold = ((s.lane i).laneHold || s.levelHold || !s.holders.isEmpty || s.overflow))
    ∧ (∀ i, (s.lane i).sensing.commanded = (s.lane i).driven)

/-- The frame at the head of the receive queue is `f`, of the kind with this code, and its owner may take it (R182). -/
def State.TakesHead (s : State) (code : BitVec 6) (f : Frame) (rest : List Frame) : Prop :=
  (s.node = .listening ∨ s.node = .running) ∧ s.bus.received = f :: rest ∧ f.code = code

/-- The state with its receive queue and what it has sent to its urgent queue replaced. -/
def State.answered (s : State) (rest : List Frame) (sent : List Frame) : State :=
  { s with bus := { s.bus with received := rest, urgent := s.bus.urgent ++ sent } }

/-- The verdict code of the first row whose check matches, none where no row matches. -/
def firstMatch (rows : List (Bool × Byte)) : Option Byte := (rows.find? (·.1)).map (·.2)

/-- A fault kind is raised at least once between two states (R163): its status is set, its count is higher unless it is
saturated, and a kind that the settings now in force leave unmasked has the first-fault record filled (R165). -/
def Raised (k : FaultKind) (s t : State) : Prop :=
  (t.log.kind k).status = true
    ∧ min 255 ((s.log.kind k).count + 1) ≤ (t.log.kind k).count
    ∧ ((t.log.kind k).masked = false → t.log.first.isSome = true)

/-- A lane at rest: every zone at STOP, no move, both ends IDLE and the tracker stopped. -/
def Lane.AtRest (l : Lane) : Prop :=
  l.zones.toList = [.stop, .stop, .stop, .stop] ∧ l.move = none ∧ l.moveTimer = none
    ∧ l.sEnd.state = .idle ∧ l.lEnd.state = .idle ∧ l.tracker.running = false

/-- A fault of this kind has stopped a lane: it is FAULTED and at rest, and the kind was raised (R22, R163). -/
def Stopped (i : LaneId) (k : FaultKind) (s t : State) : Prop :=
  (t.lane i).state = .faulted ∧ (t.lane i).AtRest ∧ Raised k s t

/-- A lane that a lane fault can stop: RUNNING, DRAINING or TURNING. -/
def Lane.Alive (l : Lane) : Prop := l.state = .running ∨ l.state = .draining ∨ l.state = .turning

/-! ### Edges (R28) -/

/-- An input whose running debounce timer has an edge to pass: its settled state differs from its pin, which is at this
level. -/
def Lane.Edge (l : Lane) (e : InputId) (high : Bool) : Prop :=
  (l.input e).timer.isSome = true ∧ (l.input e).debounced = some (!high) ∧ (l.input e).pin = high

/-- The lane with the debounced state of an input at its pin's level, and the timer stopped. -/
def Lane.took (l : Lane) (e : InputId) : Lane :=
  l.setInput e { pin := (l.input e).pin, debounced := some (l.input e).pin, timer := none }

/-- The move in progress does not use a position. -/
def Lane.NoMoveAt (l : Lane) (k : Nat) : Prop := ∀ m, l.move = some m → m.src ≠ k ∧ m.dst ≠ k

/-! ### The records of a lane, before and after -/

/-- A record less its position and its state, which moves, offers and endings change. -/
def Tote.identity (r : Tote) : Tote := { r with pos := 0, state := .seated }

/-- The queue of a lane has come to hold these records, in this order, and no other. Where the lane stops, R22 takes ENTERING
records out of them and adds none. -/
def Keeps (i : LaneId) (kept : List Tote) (t : State) : Prop :=
  ((t.lane i).state ≠ .faulted → (t.lane i).queue.map Tote.identity = kept.map Tote.identity)
    ∧ ((t.lane i).queue.map Tote.identity).Sublist (kept.map Tote.identity)

/-- R12: a zone is at STOP, unless it runs for a move in progress at its position. -/
def Rests (i : LaneId) (k : Nat) (t : State) : Prop :=
  (t.lane i).zones.toList.getD k .stop = .stop ∨ ∃ m, (t.lane i).move = some m ∧ (m.src = k ∨ m.dst = k)

/-- A record stands restored in the queue of a lane: as it was, at its position, SEATED or offered anew. -/
def Restored (i : LaneId) (r : Tote) (t : State) : Prop :=
  { r with state := .seated } ∈ (t.lane i).queue ∨ { r with state := .offered } ∈ (t.lane i).queue

/-- R92: a record that a RESERVED take holds in its place, LEAVING at the exit of an OUT lane or right behind a record there. -/
def Lane.HeldToTake (l : Lane) (r : Tote) : Prop :=
  r ∈ l.queue ∧ r.state = .leaving ∧ l.dir = .outward
    ∧ (r.pos = l.n - 1 ∨ (r.pos = l.n - 2 ∧ ∃ q ∈ l.queue, q.pos = l.n - 1))

/-- R6: an unknown record at a position, classed LOOSE in an OUT lane. -/
def unknownAt (l : Lane) (k : Nat) : Tote :=
  { id := none, kind := if l.dir = .outward then .loose else .inbound, len := .long, pos := k, state := .seated
    cls := if l.dir = .outward then some .loose else none, advised := false }

/-- R24, R25: the records that inventory leaves in a lane, SEATED: for each blocked stop eye, from the exit toward the entry, the
record that stood there or an unknown one. -/
def inventoryOf (l : Lane) : List Tote :=
  ((if l.dir = .outward then (List.range l.n).reverse else List.range l.n).filter l.stopBlocked).map fun k =>
    { (l.queue.find? fun r => r.pos == k).getD (unknownAt l k) with state := .seated }

/-- The settings of a lane in a settings block. -/
def Settings.laneOf (c : Settings) : LaneId → LaneSettings
  | .lane0 => c.lane0
  | .lane1 => c.lane1

/-! ### What a reset leaves -/

/-- A lane right after reset, fitted or not (R26, R33, R41, R82, R109, R129, R142, R158): its zones' outputs low, and its
inputs unsettled in a fitted lane, CLEAR and INACTIVE in one that is not. -/
def Lane.IsReset (l : Lane) (fitted : Bool) : Prop :=
  l.outputs.toList = [(false, false), (false, false), (false, false), (false, false)]
    ∧ l.queue = [] ∧ l.move = none ∧ l.moveTimer = none ∧ l.zones.toList = [.stop, .stop, .stop, .stop]
    ∧ l.turnaround = none
    ∧ l.sEnd.state = .idle ∧ l.sEnd.hand = none ∧ l.sEnd.offer = none ∧ l.sEnd.timer = none
    ∧ l.lEnd.state = .idle ∧ l.lEnd.hand = none ∧ l.lEnd.head = none ∧ l.lEnd.second = none
    ∧ l.lEnd.frameFlag = false ∧ l.lEnd.inputFlag = false ∧ l.lEnd.timer = none
    ∧ l.tracker.running = false ∧ l.tracker.untracked = false ∧ l.tracker.count = 0 ∧ l.tracker.active = none
    ∧ l.tracker.job = none ∧ l.tracker.d1 = none ∧ l.tracker.d2 = none ∧ l.tracker.span = false
    ∧ l.tracker.stall = none ∧ l.tracker.transfer = none ∧ l.tracker.timedOut = false
    ∧ (∀ e, (l.input e).debounced = (if fitted then none else some (e != .aligned)) ∧ (l.input e).timer = none)
    ∧ l.sensing.commanded = false ∧ l.sensing.runClass = .below ∧ l.sensing.runCount = 0
    ∧ l.sensing.settleLeft = 0 ∧ l.sensing.heldClass = .below ∧ l.sensing.noLoad = false
    ∧ l.laneHold = false ∧ l.effHold = false ∧ l.sLatch = false ∧ l.lLatch = false

/-- A node right after reset: its lanes, and the group table (R61), the holds (R158), the presence table (R159), the
fault log with its time base (R171) and the bus link (R183). -/
def State.IsReset (s : State) : Prop :=
  s.lane0.IsReset true ∧ s.lane1.IsReset s.straps.twoLanes
    ∧ s.groups = []
    ∧ s.levelHold = false ∧ s.holders = [] ∧ s.overflow = false
    ∧ (∀ p, (s.peer p).state = .absent ∧ (s.peer p).inService = false ∧ (s.peer p).timer = none)
    ∧ (∀ k, (s.log.kind k).status = false ∧ (s.log.kind k).count = 0) ∧ s.log.first = none ∧ s.timeBase = 0
    ∧ s.bus.urgent = [] ∧ s.bus.routine = [] ∧ s.bus.received = [] ∧ s.bus.attempt = none
    ∧ s.bus.urgentTries = 0 ∧ s.bus.routineTries = 0 ∧ s.bus.beaconTimer = none

/-! ### Laws that every step keeps -/

/-- R4, R22, R33: a DISABLED or FAULTED lane is at rest, and every lane is until the node is LISTENING. -/
def State.RestLaw (s : State) : Prop :=
  ∀ i, ((s.lane i).state = .disabled ∨ (s.lane i).state = .faulted ∨ (s.node ≠ .listening ∧ s.node ≠ .running)) →
    (s.lane i).AtRest

/-- R130, R133, R135: a turnaround record stands exactly in DRAINING and TURNING, of a REVERSIBLE lane, and asks for the direction
that is not the current one. In DRAINING the drain timer runs and no proposal is pending. In TURNING the proposal is pending and
the turn timer runs. -/
def Lane.TurnaroundLaw (l : Lane) : Prop :=
  ((l.turnaround.isSome = true) ↔ l.state = .draining ∨ l.state = .turning)
    ∧ ∀ r, l.turnaround = some r →
      l.kind = .reversible ∧ r.asked ≠ l.dir
      ∧ (l.state = .draining → r.pending = false ∧ r.drainTimer.isSome = true ∧ r.turnTimer = none)
      ∧ (l.state = .turning → r.pending = true ∧ r.turnTimer.isSome = true ∧ r.drainTimer = none)

/-- R133, R135: a turnaround stands only in LISTENING and RUNNING, with the record of R130, and a lane in TURNING is empty with
both ends IDLE. A head offer stands only in an OFFERING end (R85). -/
def State.TurningLaw (s : State) : Prop :=
  ∀ i, ((s.lane i).lEnd.head.isSome = true → (s.lane i).lEnd.state = .offering)
    ∧ ((s.lane i).state = .draining ∨ (s.lane i).state = .turning → s.node = .listening ∨ s.node = .running)
    ∧ ((s.lane i).state = .turning →
      (s.lane i).queue = [] ∧ (s.lane i).sEnd.state = .idle ∧ (s.lane i).lEnd.state = .idle)
    ∧ (s.lane i).TurnaroundLaw

/-- R8: one position is nearer the exit than another. -/
def Lane.nearer (l : Lane) (p q : Nat) : Prop := if l.dir = .outward then q < p else p < q

/-- A record of the lane stands at a position in this state. -/
def Lane.Has (l : Lane) (k : Nat) (st : ToteState) : Prop := ∃ r ∈ l.queue, r.pos = k ∧ r.state = st

/-- R8: the records of a lane stand at distinct positions below n, in the queue in order from the exit. -/
def Lane.QueueLaw (l : Lane) : Prop :=
  2 ≤ l.n ∧ l.n ≤ 4 ∧ (∀ r ∈ l.queue, r.pos < l.n) ∧ l.queue.Pairwise fun a b => l.nearer a.pos b.pos

/-- R11: at most one of the three activities of a lane uses a position. -/
def Lane.UseLaw (l : Lane) : Prop :=
  ∀ k, ¬ (l.usedByMove k = true ∧ l.usedByShuttle k = true) ∧ ¬ (l.usedByMove k = true ∧ l.usedByLift k = true)
    ∧ ¬ (l.usedByShuttle k = true ∧ l.usedByLift k = true)

/-- R15: a move in progress leads from a position to the next, where its record is the one that is MOVING. -/
def Lane.MoveLaw (l : Lane) : Prop :=
  (∀ m, l.move = some m →
      m.src < l.n ∧ m.src ≠ l.exitPos ∧ m.dst = l.nextPos m.src ∧ l.Has m.dst .moving ∧ ∀ r ∈ l.queue, r.pos ≠ m.src)
    ∧ ∀ r ∈ l.queue, r.state = .moving → ∃ m, l.move = some m ∧ m.dst = r.pos

/-- R62, R63: the record of a shuttle-end activity stands at position 0. A fetch is in TRANSFER from its acceptance on. -/
def Lane.ShuttleLaw (l : Lane) : Prop :=
  (l.sBusy = l.sEnd.hand.isSome) ∧ ((l.sEnd.state = .offering) ↔ l.sEnd.offer.isSome = true)
    ∧ (∀ id k len, l.sEnd.hand = some (.put id k len) → l.dir = .outward ∧ l.Has 0 .entering)
    ∧ (∀ id p, l.sEnd.hand = some (.fetch id p) → l.sEnd.state = .transfer ∧ l.dir = .inward ∧ l.Has 0 .leaving)
    ∧ (l.sEnd.offer.isSome = true → l.dir = .inward ∧ l.Has 0 .offered)

/-- R83, R102: the records of a lift-end activity stand at n−1, and at n−2 for a second one. Once the first tote of a take of
two is gone, its position is empty and the tracker follows the second. -/
def Lane.LiftLaw (l : Lane) : Prop :=
  (l.lBusy = l.lEnd.hand.isSome) ∧ ((l.lEnd.state = .offering) ↔ l.lEnd.head.isSome = true)
    ∧ (∀ h, l.lEnd.hand = some h →
      (l.lEnd.state = .reserved → h.firstGone = false)
      ∧ (h.kind = .give → l.dir = .inward ∧ h.second = none ∧ h.firstGone = false ∧ l.Has (l.n - 1) .entering)
      ∧ (h.kind = .take → l.dir = .outward
          ∧ (if h.firstGone then h.second.isSome = true ∧ ∀ r ∈ l.queue, r.pos ≠ l.n - 1 else l.Has (l.n - 1) .leaving)
          ∧ (h.second.isSome = true → l.Has (l.n - 2) .leaving))
      ∧ (l.lEnd.state = .transfer →
          l.tracker.job = some { kind := h.kind, len1 := h.first.len, len2 := h.second.map (·.len) }
          ∧ (∀ g, l.tracker.active = some g →
              (h.kind = .give ↔ g = .g1 ∨ g = .g2 ∨ g = .g3) ∧ (h.firstGone = true ↔ g = .t3 ∨ g = .t4))))
    ∧ (l.lEnd.head.isSome = true → l.dir = .outward ∧ l.Has (l.n - 1) .offered)
    ∧ (l.lEnd.second.isSome = true → l.lEnd.head.isSome = true ∧ l.Has (l.n - 2) .offered)

/-- R12, R33: a zone runs, in the flow direction of the lane, exactly while a move in progress, a put or fetch in TRANSFER or a
lift-end TRANSFER uses its position. Every other zone is at STOP, those beyond position n−1 among them. -/
def Lane.ZoneLaw (l : Lane) : Prop :=
  ∀ k : Fin 4,
    let used := l.usedByMove k.val = true ∨ (l.sEnd.state = .transfer ∧ k.val = 0)
      ∨ (l.lEnd.state = .transfer ∧ l.usedByLift k.val = true)
    (used → l.zones[k.val] = if l.dir = .outward then .forward else .reverse)
      ∧ (¬ used → l.zones[k.val] = .stop) ∧ (l.n ≤ k.val → l.zones[k.val] = .stop)

/-- R7: a record is ENTERING, LEAVING or OFFERED only where an end's activity or offer has it so. -/
def Lane.RecordLaw (l : Lane) : Prop :=
  ∀ r ∈ l.queue,
    (r.state = .entering → (r.pos = 0 ∧ ∃ id k len, l.sEnd.hand = some (.put id k len))
      ∨ (r.pos = l.n - 1 ∧ ∃ h, l.lEnd.hand = some h ∧ h.kind = .give))
    ∧ (r.state = .leaving → (r.pos = 0 ∧ ∃ id p, l.sEnd.hand = some (.fetch id p))
      ∨ (∃ h, l.lEnd.hand = some h ∧ h.kind = .take ∧ (r.pos = l.n - 1 ∨ (r.pos = l.n - 2 ∧ h.second.isSome = true))))
    ∧ (r.state = .offered → (r.pos = 0 ∧ l.sEnd.offer.isSome = true)
      ∨ (r.pos = l.n - 1 ∧ l.lEnd.head.isSome = true) ∨ (r.pos = l.n - 2 ∧ l.lEnd.second.isSome = true))

/-- What each state of a lane allows: a DISABLED or TURNING lane is empty, a DISABLED, FAULTED or TURNING lane has no move
and both ends IDLE, and until the node is LISTENING so is every lane, which then neither drains nor turns. -/
def State.IdleLaw (s : State) (i : LaneId) : Prop :=
  let l := s.lane i
  let up := s.node = .listening ∨ s.node = .running
  ((l.state = .disabled ∨ l.state = .turning ∨ ¬ up) → l.queue = [])
    ∧ ((l.state = .disabled ∨ l.state = .turning ∨ l.state = .faulted ∨ ¬ up) →
        l.move = none ∧ l.sEnd.state = .idle ∧ l.lEnd.state = .idle)
    ∧ (¬ up → l.state ≠ .draining ∧ l.state ≠ .turning)

/-- R8, R9, R11, R12: the lane queues of both lanes, with what each activity says of its records and zones. No tote id stands in
two records. -/
def State.LaneLaw (s : State) : Prop :=
  (∀ i, (s.lane i).QueueLaw ∧ (s.lane i).UseLaw ∧ (s.lane i).MoveLaw ∧ (s.lane i).ShuttleLaw ∧ (s.lane i).LiftLaw
      ∧ (s.lane i).RecordLaw ∧ (s.lane i).ZoneLaw ∧ s.IdleLaw i)
    ∧ ((s.lane0.queue ++ s.lane1.queue).filterMap (·.id)).Nodup

/-- R43: the law of the group table. -/
def State.GroupLaw (s : State) : Prop :=
  s.groups.length ≤ 16 ∧ (s.groups.map (·.group)).Nodup
    ∧ ∀ e ∈ s.groups, 1 ≤ e.window ∧ e.window ≤ 32 ∧ e.mask.getLsbD 0 = false

/-- R5, R59: a record carries a release class exactly in an OUT lane, where it is that of the group table as it stands. -/
def State.ClassLaw (s : State) : Prop :=
  ∀ i, ∀ r ∈ (s.lane i).queue,
    r.cls = if (s.lane i).dir = .outward then some (classify s.entryOf r) else none

/-- R188: the default group window in force is in its range. -/
def State.WindowLaw (s : State) : Prop := 1 ≤ s.settings.groupWindow ∧ s.settings.groupWindow ≤ 32

/-- R174, R143, R162: every list of the node stays within its capacity, and every count within its byte. -/
def State.CapacityLaw (s : State) : Prop :=
  s.bus.urgent.length ≤ 8 ∧ s.bus.routine.length ≤ 8 ∧ s.bus.received.length ≤ 16
    ∧ s.holders.length ≤ 8 ∧ s.holders.Nodup ∧ (∀ k, (s.log.kind k).count ≤ 255)

/-! ### What one lane's event may touch -/

/-- What an event of lane `i` leaves of everything that is not that lane's: the node, its settings and clock, the holds
that frames set, the presence table, the receive queue and the other lane. Frames are only added to the transmit queues, and
a group entry is only removed. The other lane changes only where a fault of this one sets the level hold (R146). -/
structure OnlyLane (i : LaneId) (s t : State) : Prop where
  node : t.node = s.node
  straps : t.straps = s.straps
  settings : t.settings = s.settings ∧ t.settingsTaken = s.settingsTaken ∧ t.defaulted = s.defaulted
  clock : t.timeBase = s.timeBase ∧ t.listenExpiries = s.listenExpiries
  holds : t.holders = s.holders ∧ t.overflow = s.overflow
  laneHolds : ∀ j, (t.lane j).laneHold = (s.lane j).laneHold
  peers : t.peers = s.peers
  groups : t.groups.Sublist s.groups
  received : t.bus.received = s.bus.received
  sending : t.bus.attempt = s.bus.attempt ∧ t.bus.urgentTries = s.bus.urgentTries
    ∧ t.bus.routineTries = s.bus.routineTries ∧ t.bus.beaconTimer = s.bus.beaconTimer
  urgent : s.bus.urgent <+: t.bus.urgent
  routine : s.bus.routine <+: t.bus.routine
  pending : t.pending = s.pending
  other : t.levelHold = s.levelHold → t.lane (otherLane i) = s.lane (otherLane i)

/-! ### Frames on the wire (R184) -/

/-- The bytes of a tote id, all ones for an absent one, most significant first. -/
def wireId (t : Option ToteId) : List Byte :=
  let x : BitVec 32 := t.getD 0xFFFFFFFF#32
  [x.extractLsb' 24 8, x.extractLsb' 16 8, x.extractLsb' 8 8, x.extractLsb' 0 8]

/-- A lane's number as a byte. -/
def wireLane : LaneId → Byte
  | .lane0 => 0
  | .lane1 => 1

/-- The end's part of a lane/end byte: bit 1. -/
def wireEnd : LaneEnd → Byte
  | .liftEnd => 0
  | .shuttleEnd => 2

/-- The node's own id, 16 plus the own level (R187). -/
def State.wireSource (s : State) : NodeId := BitVec.ofNat 7 (16 + s.straps.level.toNat)

/-- The own level as a byte. -/
def State.wireLevel (s : State) : Byte := BitVec.ofNat 8 s.straps.level.toNat

/-- REPLY: class 1 for the L-end and 2 for the S-end. -/
def wireReply (s : State) (i : LaneId) (e : LaneEnd) (request verdict count : Byte) (id : Option ToteId) : Frame :=
  { cls := if e = .liftEnd then 1 else 2, src := s.wireSource, code := 0x0E
    payload := [s.wireLevel, wireLane i + wireEnd e, request, verdict, count] ++ wireId id }

/-- END: byte 2 is the outcome, byte 3 the reason or count. -/
def wireEnded (s : State) (i : LaneId) (e : LaneEnd) (outcome reason : Byte) (id1 id2 : Option ToteId) : Frame :=
  { cls := if e = .liftEnd then 1 else 2, src := s.wireSource, code := 0x12
    payload := [s.wireLevel, wireLane i + wireEnd e, outcome, reason] ++ wireId id1 ++ wireId id2 }

/-- WITHDRAW of a slot (0 head, 1 second). -/
def wireWithdraw (s : State) (i : LaneId) (e : LaneEnd) (slot : Byte) (id : Option ToteId) : Frame :=
  { cls := if e = .liftEnd then 1 else 2, src := s.wireSource, code := 0x09
    payload := [s.wireLevel, wireLane i + wireEnd e + 4 * slot] ++ wireId id }

/-- OFFER of a slot: bit 3 of byte 1 is the late flag, byte 6 the group, and the seq/length word has bit 15 set for a LONG
tote. A record that is not GROUPED carries group 0 and seq 0. -/
def wireOffer (s : State) (i : LaneId) (e : LaneEnd) (slot : Byte) (late : Bool) (r : Tote) : Frame :=
  let (group, seq) : Byte × Nat := match r.kind with | .grouped g q => (g, q.toNat) | _ => (0, 0)
  { cls := if e = .liftEnd then 1 else 2, src := s.wireSource, code := 0x08
    payload := [s.wireLevel, wireLane i + wireEnd e + 4 * slot + (if late then 8 else 0)] ++ wireId r.id
      ++ [group, BitVec.ofNat 8 (seq / 256 + if r.len = .long then 128 else 0), BitVec.ofNat 8 (seq % 256)] }

/-- R87: the late flag of a record's offer. -/
def lateNow (r : Tote) : Bool := r.cls == some .late || r.cls == some .duplicate

/-- R57: a record's class allows an offer. -/
def mayLeave (r : Tote) : Bool :=
  match r.cls with
  | some c => c != .ahead && c != .unknownGroup
  | none => false

/-- FAULT NOTICE: the kind's number, its class (0 lane, 1 advisory, 2 link), the lane and the tote id. -/
def wireNotice (s : State) (o : Occurrence) : Frame :=
  let number := (faultIndex o.kind).val + 1
  { cls := 5, src := s.wireSource, code := 0x28
    payload := [BitVec.ofNat 8 number, if number ≤ 13 then 0 else if number ≤ 24 then 1 else 2,
        (match o.lane with | some .lane0 => 0 | some .lane1 => 1 | none => 255)] ++ wireId o.tote }

/-- GO: byte 2 is 0 for TAKE and 1 for GIVE, byte 3 the count. -/
def wireGo (s : State) (i : LaneId) (kind count : Byte) : Frame :=
  { cls := 1, src := s.wireSource, code := 0x10, payload := [s.wireLevel, wireLane i, kind, count] }

/-- A direction's code. -/
def wireDir : Dir → Byte
  | .outward => 0
  | .inward => 1

/-- TURNED: byte 2 is the direction, byte 3 the outcome. -/
def wireTurned (s : State) (i : LaneId) (d : Dir) (outcome : Byte) : Frame :=
  { cls := 2, src := s.wireSource, code := 0x17, payload := [s.wireLevel, wireLane i, wireDir d, outcome] }

/-- PROPOSE. -/
def wirePropose (s : State) (i : LaneId) (d : Dir) : Frame :=
  { cls := 2, src := s.wireSource, code := 0x15, payload := [s.wireLevel, wireLane i, wireDir d] }

/-- FAULT REPORT. -/
def wireReport (s : State) (payload : List Byte) : Frame :=
  { cls := 5, src := s.wireSource, code := 0x29, payload := payload }

/-- R186: a lane state's code. -/
def wireState : LaneState → Nat
  | .disabled => 0
  | .running => 1
  | .draining => 2
  | .turning => 3
  | .faulted => 4

/-- A flag at a place of a byte, as a number. -/
def lit (b : Bool) (place : Nat) : Nat := if b then 2 ^ place else 0

/-- R186: a lane's five bytes of the BEACON. A DISABLED lane shows its holds alone. -/
def wireBeaconLane (s : State) (l : Lane) : List Byte :=
  let fitted : Bool := l.state != .disabled
  let holds (k : Nat) : Bool := l.queue.any fun r => r.pos == k
  let busy (e : EndState) : Bool := e == .reserved || e == .transfer
  let activity := lit l.move.isSome 0 + lit (busy l.sEnd.state) 1 + lit (busy l.lEnd.state) 2 + lit l.tracker.span 3
    + lit l.tracker.untracked 4 + lit l.turnaround.isSome 5
  let places := lit (holds 0) 0 + lit (holds 1) 1 + lit (holds 2) 2 + lit (holds 3) 3 + 16 * (l.n - l.queue.length)
  let head : Nat := match l.queue.head?.bind (·.id) with | some id => id.toNat % 65536 | none => 65535
  [BitVec.ofNat 8 (wireState l.state + lit (fitted && l.dir == .inward) 3 + lit l.laneHold 4 + lit s.levelHold 5
      + lit (!s.holders.isEmpty || s.overflow) 6),
   BitVec.ofNat 8 (if fitted then activity else 0), BitVec.ofNat 8 (if fitted then places else 0)]
    ++ (if fitted then [BitVec.ofNat 8 (head / 256), BitVec.ofNat 8 (head % 256)] else [255, 255])

/-- R186: the node's own BEACON, its first bit set once the node is RUNNING. -/
def wireBeacon (s : State) (running : Bool) : Frame :=
  { cls := 6, src := s.wireSource, code := 0x01
    payload := [BitVec.ofNat 8 (lit running 0 + lit s.log.first.isSome 1 + lit s.defaulted 2),
        BitVec.ofNat 8 s.holders.length ||| (if s.overflow then 16 else 0)]
      ++ wireBeaconLane s s.lane0 ++ wireBeaconLane s s.lane1 }

/-- A lane's lift: node 1 or node 2. -/
def liftNode : LaneId → NodeId
  | .lane0 => 1
  | .lane1 => 2

/-- The level's shuttle: node 64 plus the own level. -/
def State.shuttleNode (s : State) : NodeId := BitVec.ofNat 7 (64 + s.straps.level.toNat)

/-! ### The table of R179 -/

/-- A row: the code, the class (none where payload byte 1 names the end), the lengths, whether a block of this 3240 owns the
kind, and whether payload byte 0 is a level (R181). -/
structure FrameRow where
  code : BitVec 6
  cls : Option (BitVec 3)
  lens : List Nat
  owned : Bool
  levelled : Bool
  deriving DecidableEq, Repr

/-- The rows of R179, with the level-addressed kinds of R181. The BEACON is owned at its receipt and never queued. -/
def frameRows : List FrameRow :=
  [⟨0x01, some 6, [0, 1, 2, 3, 4, 5, 6, 7, 8, 9, 10, 11, 12], false, false⟩,
   ⟨0x04, some 0, [0], true, false⟩, ⟨0x05, some 0, [1], true, false⟩,
   ⟨0x08, none, [9], false, true⟩, ⟨0x09, none, [6], false, true⟩,
   ⟨0x0A, some 1, [7], true, true⟩, ⟨0x0B, some 1, [7], true, true⟩,
   ⟨0x0C, some 2, [10], true, true⟩, ⟨0x0D, some 2, [6], true, true⟩,
   ⟨0x0E, none, [9], false, true⟩, ⟨0x0F, some 1, [2], true, true⟩, ⟨0x10, some 1, [4], false, true⟩,
   ⟨0x11, none, [3], true, true⟩, ⟨0x12, none, [12], false, true⟩,
   ⟨0x14, some 2, [3], true, true⟩, ⟨0x15, some 2, [3], false, true⟩,
   ⟨0x16, some 2, [3], true, true⟩, ⟨0x17, some 2, [4], false, true⟩,
   ⟨0x18, some 3, [6], true, false⟩, ⟨0x19, some 3, [1], true, false⟩, ⟨0x1A, some 3, [5], true, false⟩,
   ⟨0x20, some 4, [2], true, true⟩, ⟨0x21, some 4, [2], true, true⟩, ⟨0x22, some 4, [2], true, true⟩,
   ⟨0x23, some 4, [1], true, true⟩, ⟨0x24, some 4, [1], true, true⟩, ⟨0x25, some 4, [2], true, true⟩,
   ⟨0x28, some 5, [7], false, false⟩, ⟨0x29, some 5, [0, 5, 7, 8, 9, 11, 12], false, false⟩]

/-- The row a frame keeps to, none where it is malformed. A BEACON of id 1, 2 or 64 to 95 carries at least one byte. -/
def keptRow (f : Frame) : Option FrameRow :=
  (frameRows.find? fun r => r.code == f.code).filter fun r =>
    r.lens.contains f.payload.length
      && f.cls == r.cls.getD (if (f.byte 1).getLsbD 1 then 2 else 1)
      && !(f.code == 0x01 && f.payload.isEmpty
            && (f.src == 1 || f.src == 2 || (decide (64 ≤ f.src.toNat) && decide (f.src.toNat ≤ 95))))

/-! ### The targets of R116 -/

/-- A class's length. -/
def lengthAt (c : LaneSettings) : LenClass → Int
  | .standard => c.len0
  | .long => c.len1

/-- The expected value of a target, an offset not yet taken standing as R116 gives. -/
def wantAt (c : LaneSettings) (t : Tracker) (j : TrackJob) (g : Target) : Int :=
  let δ1 := t.d1.getD 0
  let δ2 := t.d2.getD δ1
  match g with
  | .t1 => c.ds
  | .t2 => c.ds + δ1 + lengthAt c j.len1
  | .t3 => c.ds + c.pitch + δ1
  | .t4 => c.ds + c.pitch + δ2 + lengthAt c (j.len2.getD .standard)
  | .g1 => c.dg
  | .g2 => c.dg + δ1 + lengthAt c j.len1
  | .g3 => c.dg + δ1 + c.dseat

/-- The tolerance of a target: tol, and twice that at G3. -/
def tolAt (c : LaneSettings) (g : Target) : Int := if g = .g3 then 2 * c.tol else c.tol

/-- The measure of a transfer: the count of a take and its negative for a give. -/
def measureAt (j : TrackJob) (count : Int) : Int := if j.kind = .take then count else -count

/-- The last target of a job's list. -/
def finalTarget (j : TrackJob) : Target := if j.kind = .take then (if j.len2.isSome then .t4 else .t2) else .g3

/-- The target after one in a job's list. -/
def followingTarget (j : TrackJob) : Target → Option Target
  | .t1 => some .t2
  | .t2 => if j.len2.isSome then some .t3 else none
  | .t3 => some .t4
  | .t4 => none
  | .g1 => some .g2
  | .g2 => some .g3
  | .g3 => none

/-- A target of a job's list. -/
def inList (j : TrackJob) (g : Target) : Bool :=
  match j.kind, j.len2 with
  | .take, none => g == .t1 || g == .t2
  | .take, some _ => g == .t1 || g == .t2 || g == .t3 || g == .t4
  | .give, _ => g == .g1 || g == .g2 || g == .g3

/-- A target that an eye blocks at. The others are clear targets. -/
def blocksAt (g : Target) : Bool := g == .t1 || g == .t3 || g == .g1 || g == .g3

/-- R123: m beyond the last target's expected value by 4·tol, or below −4·tol. -/
def runsOut (c : LaneSettings) (t : Tracker) (j : TrackJob) (m : Int) : Prop :=
  wantAt c t j (finalTarget j) + 4 * c.tol < m ∨ m < -(4 * (c.tol : Int))

/-! ### Which commands do what -/

/-- The commands that restart the node (R190, R192). -/
def restarts : Instr → Bool
  | .powerOn _ | .resetPin _ _ | .nodeReset _ => true
  | _ => false

/-- The commands that hand over settings: the restarts, which drop them, and the end of the read (R188). -/
def configures : Instr → Bool
  | .settingsReadDone _ => true
  | c => restarts c

/-- The lane whose own pin, timer, encoder or current a command is about, none for the other commands. -/
def eventLane : Instr → Option LaneId
  | .eyePinChange i _ _ | .debounceTimerExpiry i _ | .encoderEdge i _ | .currentSample i _ | .moveTimerExpiry i
  | .putWindowExpiry i | .entryTimerExpiry i | .fetchWindowExpiry i | .alignWindowExpiry i
  | .stallTimerExpiry i | .transferTimerExpiry i | .drainTimerExpiry i | .turnTimerExpiry i => some i
  | _ => none

/-- The frames of a partner or a front end that name one lane in payload byte 1, with their codes (R179). -/
def laneFrameCode : Instr → Option (BitVec 6)
  | .take => some 0x0A
  | .give => some 0x0B
  | .put => some 0x0C
  | .fetch => some 0x0D
  | .aligned => some 0x0F
  | .abort => some 0x11
  | .turn => some 0x14
  | .answer => some 0x16
  | .laneReset => some 0x22
  | _ => none

/-! ### The checks of a request, row by row -/

/-- The forward distance of R44, in plain arithmetic. -/
def distance (x y : Seq) : Nat := (y.toNat + 4096 - x.toNat) % 4096

/-- A tote id is present and a record of either lane holds it (R9). -/
def heldHere (s : State) (id : Option ToteId) : Bool :=
  id.isSome && (s.lane0.queue ++ s.lane1.queue).any fun r => r.id == id

/-- R67: a record of the lane has the new tote's group and a seq that the new seq is not ahead of. -/
def outOfOrder (l : Lane) (k : ToteKind) : Bool :=
  match k with
  | .grouped g q =>
    l.queue.any fun r =>
      match r.kind with
      | .grouped h x => h == g && (distance x q == 0 || decide (2048 ≤ distance x q))
      | _ => false
  | _ => false

/-- The rows of R66, with the codes of R184. -/
def putRows (s : State) (i : LaneId) (f : Frame) : List (Bool × Byte) :=
  let l := s.lane i
  let busy := l.sEnd.state == .reserved || l.sEnd.state == .transfer
  [(f.src != s.shuttleNode, 8),
   (s.node == .listening, 10),
   (l.state == .disabled || l.state == .faulted, 9),
   (busy && l.sEnd.hand == some (.put (f.toteId 2) f.putKind f.putLen), 0),
   (l.sEnd.state != .idle, 1),
   (l.effHold, 3),
   (l.dir == .inward, 7),
   (l.state == .draining || l.state == .turning, 12),
   (heldHere s (f.toteId 2), 6),
   ((l.queue.any fun r => r.pos == 0) || (match l.move with | some m => m.src == 0 | none => false), 2),
   (outOfOrder l f.putKind, 5)]

/-- The rows of R76. -/
def fetchRows (s : State) (i : LaneId) (f : Frame) : List (Bool × Byte) :=
  let l := s.lane i
  let busy := l.sEnd.state == .reserved || l.sEnd.state == .transfer
  let again := match l.sEnd.hand with | some (.fetch id _) => id == f.toteId 2 | _ => false
  [(f.src != s.shuttleNode, 8),
   (s.node == .listening, 10),
   (l.state == .disabled || l.state == .faulted, 9),
   (busy && again, 0),
   (busy, 1),
   (l.effHold, 3),
   (l.dir == .outward, 7),
   (l.sEnd.state != .offering || l.sEnd.offer != some ⟨f.toteId 2⟩, 4)]

/-- The rows of R91. -/
def takeRows (s : State) (i : LaneId) (f : Frame) : List (Bool × Byte) :=
  let l := s.lane i
  let busy := l.lEnd.state == .reserved || l.lEnd.state == .transfer
  let again := match l.lEnd.hand with | some h => h.kind == .take && h.first.id == f.toteId 3 | none => false
  [(f.src != liftNode i, 8),
   (s.node == .listening, 10),
   (l.state == .disabled || l.state == .faulted, 9),
   (busy && again, 0),
   (busy, 1),
   (l.effHold, 3),
   (l.dir == .inward, 7),
   (l.lEnd.head != some ⟨f.toteId 3⟩, 4)]

/-- R94: a length-class code other than 0 is LONG. -/
def giveLength (f : Frame) : LenClass := if f.byte 6 = 0 then .standard else .long

/-- The rows of R94. -/
def giveRows (s : State) (i : LaneId) (f : Frame) : List (Bool × Byte) :=
  let l := s.lane i
  let busy := l.lEnd.state == .reserved || l.lEnd.state == .transfer
  let again :=
    match l.lEnd.hand with
    | some h => h.kind == .give && h.first.id == f.toteId 2 && h.first.len == giveLength f
    | none => false
  [(f.src != liftNode i, 8),
   (s.node == .listening, 10),
   (l.state == .disabled || l.state == .faulted, 9),
   (busy && again, 0),
   (busy, 1),
   (l.effHold, 3),
   (l.dir == .outward, 7),
   (l.state == .draining || l.state == .turning, 12),
   (heldHere s (f.toteId 2), 6),
   ((l.queue.any fun r => r.pos == l.n - 1)
      || (match l.move with | some m => m.src == l.n - 1 || m.dst == l.n - 1 | none => false), 2)]

/-- The direction a TURN asks for: a code other than OUT or IN is the lane's current direction (R131). -/
def askedDir (l : Lane) (f : Frame) : Dir :=
  if f.byte 2 = 0 then .outward else if f.byte 2 = 1 then .inward else l.dir

/-- The rows of R131 that refuse a TURN. -/
def turnRows (s : State) (i : LaneId) (f : Frame) : List (Bool × Byte) :=
  let l := s.lane i
  [(f.src != liftNode i && f.src != s.shuttleNode, 8),
   (s.node == .listening, 10),
   (l.state != .disabled && l.kind != .reversible, 11),
   (l.state == .disabled || l.state == .faulted, 9),
   (l.turnaround.isSome, 1),
   (askedDir l f != l.dir && l.effHold, 3)]

/-- The count field of the handover in hand: 1, or 2 for a take of two. -/
def countInHand (l : Lane) : Byte :=
  match l.lEnd.hand with
  | some h => if h.second.isSome then 2 else 1
  | none => 0

end Sys2Proof.Machine
end

