-- ==== Sys2Proof/Certificates/Slice0/Obligations.lean ====
section
/-! DEFINITION. The statements for the provers, in the order of the manual's chapters: the step, the whole-machine rules,
start-up, sensing, lanes, groups, the two ends, the tracker, turnaround, holds, presence, faults and the bus. -/

open Sys2Proof Sys2Proof.Machine

/-! ### The step -/

/-- The step takes the command at the front of the queue and runs it with the queue's rest. -/
def Obligations.StepRunsTheFrontCommand : Prop :=
  ∀ (c : Instr) (rest : List Instr) (s : State), step { s with pending := c :: rest } = exec c { s with pending := rest }

/-- With no command waiting one millisecond passes: the time base advances and every running timer has one millisecond
less to go (the model's choice, log entry 5). A node held in reset keeps its state. -/
def Obligations.EmptyQueuePassesOneMillisecond : Prop :=
  ∀ s : State, s.pending = [] →
    (s.node = .held → step s = .next s)
    ∧ (s.node ≠ .held →
      ∃ t, step s = .next t ∧ t.timeBase = s.timeBase + 1
        ∧ (∀ i,
            (t.lane i).moveTimer = (s.lane i).moveTimer.map (· - 1)
            ∧ (t.lane i).sEnd.timer = (s.lane i).sEnd.timer.map (· - 1)
            ∧ (t.lane i).lEnd.timer = (s.lane i).lEnd.timer.map (· - 1)
            ∧ (t.lane i).tracker.stall = (s.lane i).tracker.stall.map (· - 1)
            ∧ (t.lane i).tracker.transfer = (s.lane i).tracker.transfer.map (· - 1)
            ∧ (∀ e, ((t.lane i).input e).timer = ((s.lane i).input e).timer.map (· - 1)
                ∧ ((t.lane i).input e).debounced = ((s.lane i).input e).debounced)
            ∧ ((t.lane i).turnaround.bind (·.drainTimer)) = ((s.lane i).turnaround.bind (·.drainTimer)).map (· - 1)
            ∧ ((t.lane i).turnaround.bind (·.turnTimer)) = ((s.lane i).turnaround.bind (·.turnTimer)).map (· - 1)
            ∧ (t.lane i).queue = (s.lane i).queue ∧ (t.lane i).zones = (s.lane i).zones
            ∧ (t.lane i).state = (s.lane i).state)
        ∧ (∀ p, (t.peer p).timer = (s.peer p).timer.map (· - 1) ∧ (t.peer p).state = (s.peer p).state)
        ∧ t.bus.beaconTimer = s.bus.beaconTimer.map (· - 1)
        ∧ t.bus.urgent = s.bus.urgent ∧ t.bus.routine = s.bus.routine ∧ t.bus.received = s.bus.received
        ∧ t.groups = s.groups ∧ t.log = s.log)

/-! ### Rules of the whole machine -/

/-- Every command completes, in every state: one whose event cannot arise in a state changes nothing there, which is the model's
choice (log entry 2). It leaves the queue of commands as it is; only a restart touches the clock and the straps; only a restart
or the end of the settings read touches the settings, the masks and the escalate settings; and only a restart, a received frame
or a silence touches the presence table. -/
def Obligations.EveryCommandCompletesInItsPart : Prop :=
  ∀ (c : Instr) (s : State), ∃ t, exec c s = .next t ∧ t.pending = s.pending
    ∧ (restarts c = false → t.timeBase = s.timeBase ∧ t.straps = s.straps ∧ t.resetLow = s.resetLow)
    ∧ (configures c = false →
        t.settings = s.settings ∧ t.settingsTaken = s.settingsTaken ∧ t.defaulted = s.defaulted
        ∧ ∀ k, (t.log.kind k).masked = (s.log.kind k).masked ∧ (t.log.kind k).escalate = (s.log.kind k).escalate)
    ∧ (restarts c = false → (∀ l, c ≠ .frameReceived l) → (∀ p, c ≠ .silenceTimerExpiry p) → t.peers = s.peers)

/-- The aisle hold's holders and the lane holds change only by their own frames and by a restart; a rejected settings block
sets lane holds. A level hold that stands is cleared by LANE RELEASE alone, and one is set only where a lane fault whose
escalate setting is set is raised. -/
def Obligations.HoldsChangeOnlyByTheirFrames : Prop :=
  ∀ (c : Instr) (s t : State), exec c s = .next t → restarts c = false →
    (c ≠ .aisleHold → c ≠ .aisleRelease → t.holders = s.holders ∧ t.overflow = s.overflow)
    ∧ (c ≠ .laneHold → c ≠ .laneRelease → configures c = false → ∀ i, (t.lane i).laneHold = (s.lane i).laneHold)
    ∧ (c ≠ .laneRelease → s.levelHold = true → t.levelHold = true)
    ∧ (c ≠ .faultClear → s.levelHold = false → t.levelHold = true →
        ∃ k, (faultIndex k).val < 13 ∧ (t.log.kind k).escalate = true ∧ Raised k s t)

/-- The direction of a lane changes by an ANSWER, and otherwise only where a restart or the end of the settings read sets
it. -/
def Obligations.DirectionChangesOnlyByAnswer : Prop :=
  ∀ (c : Instr) (s t : State), exec c s = .next t → configures c = false → c ≠ .answer →
    ∀ i, (t.lane i).dir = (s.lane i).dir

/-- A FAULTED lane stays FAULTED through every command but LANE RESET, a restart and the hand-over of settings. -/
def Obligations.FaultedLaneWaitsForReset : Prop :=
  ∀ (c : Instr) (s t : State) (i : LaneId), exec c s = .next t → configures c = false → c ≠ .laneReset →
    (s.lane i).state = .faulted → (t.lane i).state = .faulted

/-- The first-fault record keeps its content, and the statuses and counts of the log only grow, until FAULT CLEAR or a
restart. -/
def Obligations.LogOnlyGrowsUntilCleared : Prop :=
  ∀ (c : Instr) (s t : State), exec c s = .next t → restarts c = false → c ≠ .faultClear →
    (∀ r, s.log.first = some r → ∃ m, t.log.first = some { r with multiple := m } ∧ (r.multiple = true → m = true))
    ∧ (∀ k, ((s.log.kind k).status = true → (t.log.kind k).status = true)
        ∧ ((s.log.kind k).count ≤ 255 → (s.log.kind k).count ≤ (t.log.kind k).count))

/-- Every step leaves each effective hold as R149 makes it and each drive condition as R34 makes it. That both are brought up
to date once, as a command ends, is the model's choice (log entries 27 and 30). -/
def Obligations.StepKeepsHoldsAndDrives : Prop := ∀ s t : State, s.Quiet → step s = .next t → t.Quiet

/-- Every step keeps a DISABLED or FAULTED lane at rest, and every lane until the node is LISTENING: its zones at STOP, no move,
both ends IDLE and its tracker stopped. -/
def Obligations.StepKeepsStoppedLanesAtRest : Prop := ∀ s t : State, s.RestLaw → step s = .next t → t.RestLaw

/-- Every step keeps a TURNING lane empty, with both ends IDLE, and a turnaround record exactly in DRAINING and TURNING: in DRAINING
its drain timer runs and no proposal is pending, in TURNING the proposal is pending and the turn timer runs. -/
def Obligations.StepKeepsTurningLanesEmpty : Prop := ∀ s t : State, s.TurningLaw → step s = .next t → t.TurningLaw

/-- Every step keeps the law of the lane queues: records at distinct positions below n in order from the exit, no tote id in two
records, at most one activity at a position, and each record that is MOVING, ENTERING, LEAVING or OFFERED where its own activity
or offer has it. A zone runs, in the flow direction, exactly where a move in progress or an end in TRANSFER uses its position, and
every other zone is at STOP. -/
def Obligations.StepKeepsTheLaneQueues : Prop := ∀ s t : State, s.LaneLaw → step s = .next t → t.LaneLaw

/-- Every step keeps the law of the group table, with the default window in its range. In states whose lane queues are lawful it
keeps each record of an OUT lane with the class of the table as it stands, and each record of an IN lane with none. -/
def Obligations.StepKeepsTheGroupTable : Prop :=
  ∀ s t : State, s.GroupLaw → s.WindowLaw → step s = .next t →
    t.GroupLaw ∧ t.WindowLaw ∧ (s.LaneLaw → s.ClassLaw → t.ClassLaw)

/-- Every step keeps every queue, the holder set and every count within its capacity. -/
def Obligations.StepKeepsTheCapacities : Prop := ∀ s t : State, s.CapacityLaw → step s = .next t → t.CapacityLaw

/-- The state after power-on is a reset state in LOADING, and it meets every law that a step keeps. -/
def Obligations.ResetStateMeetsTheLaws : Prop :=
  State.reset.IsReset ∧ State.reset.node = .loading ∧ State.reset.pending = []
    ∧ State.reset.Quiet ∧ State.reset.RestLaw ∧ State.reset.TurningLaw ∧ State.reset.LaneLaw ∧ State.reset.GroupLaw
    ∧ State.reset.WindowLaw ∧ State.reset.ClassLaw ∧ State.reset.CapacityLaw

/-- What one lane's event leaves alone: a pin, a timer, an encoder input or a current sample of a lane after LOADING, and a
frame that names a lane. A PUT may name either lane. -/
def Obligations.LaneEventTouchesOnlyItsLane : Prop :=
  (∀ (c : Instr) (i : LaneId) (s t : State), eventLane c = some i → s.Quiet → s.node ≠ .loading →
      exec c s = .next t → OnlyLane i s t)
  ∧ (∀ (c : Instr) (code : BitVec 6) (f : Frame) (rest : List Frame) (s t : State), laneFrameCode c = some code →
      s.Quiet → s.TakesHead code f rest → exec c s = .next t →
      ∃ i, (c = .put ∨ i = f.lane) ∧ OnlyLane i { s with bus := { s.bus with received := rest } } t)

/-! ### Start-up (Chapter 11) -/

/-- The levels of the pins stand, which are the world's (log entry 12). -/
def pinsStand (s t : State) : Prop :=
  ∀ i, (t.lane i).encA = (s.lane i).encA ∧ (t.lane i).encB = (s.lane i).encB
    ∧ ∀ e, ((t.lane i).input e).pin = ((s.lane i).input e).pin

/-- R189: a lane's defaults, its geometry those of R115. -/
def defaultLane : LaneSettings :=
  { kind := .outOnly, initialDir := .outward, positions := 4
    ds := 180, dg := 250, dseat := 1950, pitch := 2000, len0 := 1200, len1 := 1700, tol := 40
    moveTime := 2500, putWindow := 5000, fetchWindow := 5000, alignWindow := 15000, transferTime := 4000
    stallTime := 250, currentLow := 50, currentHigh := 1500, persistence := 5 }

/-- R189: what the defaults leave, from a state before: in force for every item, each fitted lane an OUT lane of four
positions whose lane hold is set and which is therefore held, and CONFIG_DEFAULTED raised with every kind unmasked. -/
def DefaultsInForce (s t : State) : Prop :=
  t.settingsTaken = true ∧ t.defaulted = true
    ∧ t.settings =
        { lane0 := defaultLane, lane1 := defaultLane, debounce := 4, beaconPeriod := 100, groupWindow := 4
          drainTime := 30000, turnTime := 2000, mask := 0, escalate := 0 }
    ∧ (∀ i, (i = .lane0 ∨ t.straps.twoLanes = true) →
        (t.lane i).laneHold = true ∧ (t.lane i).effHold = true
        ∧ (t.lane i).kind = .outOnly ∧ (t.lane i).n = 4 ∧ (t.lane i).dir = .outward)
    ∧ (t.straps.twoLanes = false → t.lane1.state = .disabled)
    ∧ Raised .configDefaulted s t
    ∧ (∀ k, (t.log.kind k).masked = false ∧ (t.log.kind k).escalate = false)

/-- What a restart leaves while the settings are still to be read, or the node is held. That the settings-defaulted flag stands
through the restart, a power-on included, is the model's reading (log entry 43). -/
def restartedTo (s t : State) : Prop :=
  t.IsReset ∧ t.settingsTaken = false ∧ t.defaulted = s.defaulted ∧ pinsStand s t

/-- What LOADING begins with: the straps as read, and with MEMORY high every block after reset. With MEMORY low the defaults are
in force at once, with a node that is otherwise after reset, the inputs of its fitted lanes settling, and CONFIG_DEFAULTED alone
in its log and its notice waiting. -/
def loadingBegun (straps : Straps) (s t : State) : Prop :=
  t.node = .loading ∧ t.straps = straps ∧ t.resetLow = false
    ∧ (straps.memory = true → restartedTo s t)
    ∧ (straps.memory = false →
        DefaultsInForce State.reset t ∧ pinsStand s t ∧ t.timeBase = 0
        ∧ (∀ i, (t.lane i).AtRest ∧ (t.lane i).queue = [] ∧ (t.lane i).turnaround = none
            ∧ ∀ e, ((t.lane i).watches e = true →
                ((t.lane i).input e).debounced = none ∧ ((t.lane i).input e).timer = some 4))
        ∧ t.groups = [] ∧ t.levelHold = false ∧ t.holders = [] ∧ t.overflow = false
        ∧ (∀ p, (t.peer p).state = .absent ∧ (t.peer p).timer = none)
        ∧ t.bus.urgent = [] ∧ t.bus.received = [] ∧ t.bus.attempt = none ∧ t.bus.beaconTimer = none
        ∧ (let o : Occurrence := { kind := .configDefaulted, lane := none, tote := none, frame := none, track := none }
           t.log.first = some { occurrence := o, time := 0, multiple := false } ∧ t.bus.routine = [wireNotice t o]))

/-- Power-on, the release of the RESET pin and NODE RESET begin LOADING with the straps read and every block after reset: with
MEMORY high to wait for the settings block, with MEMORY low with the defaults in force. A low RESET pin holds the node in reset,
its strap values those last read (the model's choice, log entry 46). That the settings-defaulted flag stands until a start
accepts a block, and that CONFIG_DEFAULTED carries no frame, are the model's readings (log entry 43). -/
def Obligations.RestartsLeaveTheResetState : Prop :=
  ∀ (s : State) (straps : Straps),
    (s.resetLow = false → ∃ t, exec (.powerOn straps) s = .next t ∧ loadingBegun straps s t)
    ∧ (∃ t, exec (.resetPin true straps) s = .next t ∧ restartedTo s t ∧ t.node = .held ∧ t.resetLow = true
        ∧ t.straps = s.straps)
    ∧ (s.resetLow = true → ∃ t, exec (.resetPin false straps) s = .next t ∧ loadingBegun straps s t)
    ∧ (∀ f rest, s.TakesHead 0x23 f rest → ∃ t, exec (.nodeReset straps) s = .next t ∧ loadingBegun straps s t)

/-- A byte of the settings block as a number. A byte the memory does not return reads as all ones. -/
def blockNat (block : List Byte) (j : Nat) : Nat := (block.getD j 0xFF#8).toNat

/-- A two-byte field of the settings block, its low 13 bits. -/
def blockCounts (block : List Byte) (j : Nat) : Nat := (blockNat block j * 256 + blockNat block (j + 1)) % 8192

/-- R188: a structural fault of the lane section at offset `o`: its codes, its geometry (R115), its thresholds or its
persistence. -/
def sectionBroken (b : List Byte) (o : Nat) : Prop :=
  blockNat b o % 4 = 3 ∨ 2 ≤ blockNat b o / 4 % 4
    ∨ blockNat b o / 16 % 8 < 2 ∨ 4 < blockNat b o / 16 % 8
    ∨ blockNat b (o + 13) = 0
    ∨ blockCounts b (o + 11) ≤ blockCounts b (o + 9)
    ∨ blockCounts b (o + 5) ≤ blockCounts b (o + 11)
    ∨ blockCounts b (o + 7) ≤ blockCounts b (o + 11)
    ∨ blockCounts b (o + 9) ≤ 2 * blockNat b (o + 13)
    ∨ (blockNat b (o + 22) * 256 + blockNat b (o + 23)) % 4096 ≤ (blockNat b (o + 20) * 256 + blockNat b (o + 21)) % 4096
    ∨ blockNat b (o + 20) / 16 = 0

/-- A value within its range: one below takes the lowest, one above the highest. -/
def within (lo hi v : Nat) : Nat := max lo (min hi v)

/-- R188: a lane's settings as the section at offset `o` gives them, timing values in ms and clamped. -/
def blockLane (b : List Byte) (o : Nat) : LaneSettings :=
  { kind := if blockNat b o % 4 = 0 then .outOnly else if blockNat b o % 4 = 1 then .inOnly else .reversible
    initialDir := if blockNat b o / 4 % 4 = 0 then .outward else .inward
    positions := blockNat b o / 16 % 8
    ds := blockCounts b (o + 1), dg := blockCounts b (o + 3), dseat := blockCounts b (o + 5)
    pitch := blockCounts b (o + 7), len0 := blockCounts b (o + 9), len1 := blockCounts b (o + 11)
    tol := blockNat b (o + 13)
    moveTime := within 200 10000 (50 * blockNat b (o + 14))
    putWindow := within 500 30000 (250 * blockNat b (o + 15))
    fetchWindow := within 500 30000 (250 * blockNat b (o + 16))
    alignWindow := within 1000 60000 (250 * blockNat b (o + 17))
    transferTime := within 500 30000 (250 * blockNat b (o + 18))
    stallTime := within 50 2000 (10 * blockNat b (o + 19))
    currentLow := (blockNat b (o + 20) * 256 + blockNat b (o + 21)) % 4096
    persistence := blockNat b (o + 20) / 16
    currentHigh := (blockNat b (o + 22) * 256 + blockNat b (o + 23)) % 4096 }

/-- The settings block is rejected exactly when MEMORY is low, its CRC differs, or a section in use is broken. -/
def Obligations.BlockIsRejectedExactlyWhenBroken : Prop :=
  ∀ (b : List Byte) (p : Straps),
    readSettings b p = none ↔
      (p.memory = false
        ∨ crc16 (byteBits ((List.range 62).map fun j => b.getD j 0xFF#8)) ≠ b.getD 62 0xFF#8 ++ b.getD 63 0xFF#8
        ∨ sectionBroken b 0 ∨ (p.twoLanes = true ∧ sectionBroken b 24))

/-- With a rejected block the defaults are in force for every item, the geometry of R115 included, for both lanes; each fitted
lane is held, and CONFIG_DEFAULTED is raised with every kind unmasked. -/
def Obligations.RejectedBlockGivesTheDefaults : Prop :=
  ∀ (b : List Byte) (s : State), s.node = .loading → s.settingsTaken = false → readSettings b s.straps = none →
    (s.lane0.input .lSill).debounced = none →
    ∃ t, exec (.settingsReadDone b) s = .next t ∧ t.node = .loading ∧ t.straps = s.straps ∧ DefaultsInForce s t

/-- An accepted block is in force as its bytes give it, each setting at its offset, in its unit and clamped, and it fits the
lanes: lane 1 by the strap, each fitted lane with its kind, positions and starting direction. The fault log has the masks and
the escalate settings of the block. That a part strapped for one lane keeps the defaults as its lane 1 settings is the model's
choice (log entry 17). -/
def Obligations.AcceptedBlockIsInForce : Prop :=
  ∀ (b : List Byte) (s : State) (c : Settings), s.node = .loading → s.settingsTaken = false →
    readSettings b s.straps = some c →
    (1 ≤ c.groupWindow ∧ c.groupWindow ≤ 32 ∧ c.debounce ≤ 15 ∧ 20 ≤ c.beaconPeriod ∧ c.beaconPeriod ≤ 1000
      ∧ 1000 ≤ c.drainTime ∧ c.drainTime ≤ 60000 ∧ 200 ≤ c.turnTime ∧ c.turnTime ≤ 10000)
    ∧ (∀ l, (l = c.lane0 ∨ l = c.lane1) →
        2 ≤ l.positions ∧ l.positions ≤ 4 ∧ 200 ≤ l.moveTime ∧ l.moveTime ≤ 10000
        ∧ 500 ≤ l.putWindow ∧ l.putWindow ≤ 30000 ∧ 500 ≤ l.fetchWindow ∧ l.fetchWindow ≤ 30000
        ∧ 1000 ≤ l.alignWindow ∧ l.alignWindow ≤ 60000 ∧ 500 ≤ l.transferTime ∧ l.transferTime ≤ 30000
        ∧ 50 ≤ l.stallTime ∧ l.stallTime ≤ 2000 ∧ l.currentLow < l.currentHigh ∧ 1 ≤ l.persistence)
    ∧ (c.lane0 = blockLane b 0 ∧ c.lane1 = (if s.straps.twoLanes then blockLane b 24 else defaultLane)
      ∧ c.debounce = blockNat b 48 % 16 ∧ c.beaconPeriod = within 20 1000 (5 * blockNat b 49)
      ∧ c.groupWindow = within 1 32 (blockNat b 50) ∧ c.drainTime = within 1000 60000 (250 * blockNat b 51)
      ∧ c.turnTime = within 200 10000 (50 * blockNat b 52))
    ∧ ∃ t, exec (.settingsReadDone b) s = .next t ∧ t.settings = c ∧ t.defaulted = false ∧ t.settingsTaken = true
      ∧ (∀ i, (i = .lane0 ∨ s.straps.twoLanes = true) →
          (t.lane i).state ≠ .disabled ∧ (t.lane i).kind = (c.laneOf i).kind ∧ (t.lane i).n = (c.laneOf i).positions
          ∧ (t.lane i).dir =
              (match (c.laneOf i).kind with
               | .outOnly => .outward
               | .inOnly => .inward
               | .reversible => (c.laneOf i).initialDir))
      ∧ (s.straps.twoLanes = false → t.lane1.state = .disabled)
      ∧ (∀ k, (t.log.kind k).masked = c.mask.getLsbD (faultIndex k).val)
      ∧ (let mask := blockNat b 53 * 16777216 + blockNat b 54 * 65536 + blockNat b 55 * 256 + blockNat b 56
         let escalate := blockNat b 57 * 256 + blockNat b 58
         ∀ k, let j := (faultIndex k).val
           (t.log.kind k).masked = mask.testBit j ∧ (t.log.kind k).escalate = (decide (j < 13) && escalate.testBit j))

/-- LOADING ends when the last watched input settles: the node is LISTENING and the beacon timer runs. Inventory then sets each
fitted lane, which has no records: with a sill blocked it raises SILL_BLOCKED and is FAULTED with none, and otherwise it is RUNNING
with an unknown record at each blocked stop eye, in order from the exit, but for the move and the offers that follow at once; held,
it has neither. While another watched input is unsettled, the expiry settles its input and nothing else. -/
def Obligations.SettlingEndsLoading : Prop :=
  ∀ (s : State) (i : LaneId) (e : InputId), s.Quiet → s.node = .loading → s.settingsTaken = true →
    ((s.lane i).input e).timer.isSome = true → ((s.lane i).input e).debounced = none →
    ((∀ j e', (j, e') ≠ (i, e) → (s.lane j).watches e' = true → ((s.lane j).input e').debounced.isSome = true) →
      ∃ t, exec (.debounceTimerExpiry i e) s = .next t ∧ t.node = .listening ∧ t.listenExpiries = 0
        ∧ t.bus.beaconTimer = some s.settings.beaconPeriod
        ∧ (∀ j, (s.lane j).state = .disabled → (t.lane j).state = .disabled ∧ (t.lane j).queue = (s.lane j).queue)
        ∧ (∀ j, (s.lane j).state = .running → (s.lane j).queue = [] → (s.lane j).move = none →
          let l := if j = i then (s.lane i).took e else s.lane j
          ((l.blocked .sSill = true ∨ l.blocked .lSill = true) →
            (t.lane j).state = .faulted ∧ (t.lane j).queue = [] ∧ Raised .sillBlocked s t)
          ∧ (l.blocked .sSill = false → l.blocked .lSill = false →
            let shifted (r : Tote) : Tote :=
              match (t.lane j).move with
              | some m => if r.pos = m.src then { r with pos := m.dst } else r
              | none => r
            (t.lane j).state = .running
            ∧ (t.lane j).queue.map (fun r => { r with state := ToteState.seated }) = (inventoryOf l).map shifted
            ∧ ((s.lane j).effHold = true ∨ (t.lane j).effHold = true → (t.lane j).queue = inventoryOf l))))
    ∧ ((∃ j e', (j, e') ≠ (i, e) ∧ (s.lane j).watches e' = true ∧ ((s.lane j).input e').debounced = none) →
      exec (.debounceTimerExpiry i e) s = .next (s.setLane i ((s.lane i).setInput e
        { pin := ((s.lane i).input e).pin, debounced := some ((s.lane i).input e).pin, timer := none })))

/-! ### Sensing (Chapter 2) -/

/-- A pin change of a settled input starts its debounce timer when the level differs from the debounced state and stops it
when it equals it, and passes no edge; with a debounce time of 0 a level that differs is taken at once, as an expiry would take
it. While an input settles every pin change starts its timer over. The pin of an input that is not watched only shows its level.
A debounced change is no more than that while the node is LOADING, where a sill clears with its end IDLE or OFFERING, and where
the lane neither runs nor drains and nothing in it is in hand. -/
def Obligations.PinsAndTimersOnlySettleAnInput : Prop :=
  (∀ (s : State) (i : LaneId) (e : InputId) (high d : Bool), s.Quiet →
    let x := (s.lane i).input e
    (s.settingsTaken = true → (s.lane i).watches e = true → 1 ≤ s.settings.debounce → x.debounced = some d →
      exec (.eyePinChange i e high) s = .next (s.setLane i ((s.lane i).setInput e
        { pin := high, debounced := some d, timer := if high = d then none else some s.settings.debounce })))
    ∧ (s.settingsTaken = true → (s.lane i).watches e = true → s.settings.debounce = 0 → x.debounced = some d →
        x.timer = none →
      (high = d → exec (.eyePinChange i e high) s = .next (s.setLane i ((s.lane i).setInput e { x with pin := high })))
      ∧ (high ≠ d → exec (.eyePinChange i e high) s =
          exec (.debounceTimerExpiry i e) (s.setLane i ((s.lane i).setInput e
            { pin := high, debounced := some d, timer := some 0 }))))
    ∧ (s.settingsTaken = true → (s.lane i).watches e = true → 1 ≤ s.settings.debounce → x.debounced = none →
      exec (.eyePinChange i e high) s = .next (s.setLane i ((s.lane i).setInput e
        { pin := high, debounced := none, timer := some s.settings.debounce })))
    ∧ ((s.lane i).watches e = false →
      exec (.eyePinChange i e high) s = .next (s.setLane i ((s.lane i).setInput e { x with pin := high }))))
  ∧ (∀ (s : State) (i : LaneId) (e : InputId) (d : Bool), s.Quiet →
    let l := s.lane i
    let x := l.input e
    x.timer.isSome = true → x.debounced = some d →
    (s.node = .loading
      ∨ (e = .sSill ∧ x.pin = true ∧ (l.sEnd.state = .idle ∨ l.sEnd.state = .offering))
      ∨ (e = .lSill ∧ x.pin = true ∧ (l.lEnd.state = .idle ∨ l.lEnd.state = .offering))
      ∨ (l.state ≠ .running ∧ l.state ≠ .draining ∧ l.move = none ∧ (l.sEnd.state = .idle ∨ l.sEnd.state = .offering)
          ∧ (l.lEnd.state = .idle ∨ l.lEnd.state = .offering))) →
    exec (.debounceTimerExpiry i e) s = .next (s.setLane i (l.took e)))

/-- Edges that no activity expects. In a RUNNING or DRAINING lane a stop eye that blocks where no record stands raises PHANTOM, a
sill that blocks with its end IDLE or OFFERING raises SILL_BLOCKED, and a stop eye that clears under a SEATED or OFFERED record
raises LOST_TOTE: the record goes, and its offer with it. In RESERVED the S-end raises PHANTOM at a block of stop eye 0, and the
L-end SILL_BLOCKED at a block of its sill, PHANTOM at a block of stop eye n−1 of a give, and STRANDED at a clearing under a
LEAVING record. Each of these but LOST_TOTE stops the lane. -/
def Obligations.UnexpectedEdgesRaiseTheirFaults : Prop :=
  ∀ (s : State) (i : LaneId), s.Quiet → (s.node = .listening ∨ s.node = .running) →
    let l := s.lane i
    let flows := l.state = .running ∨ l.state = .draining
    let sFree := l.sEnd.state = .idle ∨ l.sEnd.state = .offering
    let lFree := l.lEnd.state = .idle ∨ l.lEnd.state = .offering
    (∀ k : Fin 4, flows → l.Edge (.stop k) false → (∀ r ∈ l.queue, r.pos ≠ k.val) → l.NoMoveAt k →
      (k.val = 0 → sFree) → (k.val = l.n - 1 ∨ k.val = l.n - 2 → lFree) →
      ∃ t, exec (.debounceTimerExpiry i (.stop k)) s = .next t ∧ Stopped i .phantom s t)
    ∧ (∀ e, flows → l.Edge e false → ((e = .sSill ∧ sFree) ∨ (e = .lSill ∧ lFree)) →
      ∃ t, exec (.debounceTimerExpiry i e) s = .next t ∧ Stopped i .sillBlocked s t)
    ∧ (∀ (k : Fin 4) r, flows → l.Edge (.stop k) true → l.recordAt k = some r → (r.state = .seated ∨ r.state = .offered) →
      l.NoMoveAt k → (k.val = 0 → sFree) → (k.val = l.n - 1 ∨ k.val = l.n - 2 → lFree) →
      ∃ t, exec (.debounceTimerExpiry i (.stop k)) s = .next t ∧ Raised .lostTote s t
        ∧ (∀ r' ∈ (t.lane i).queue, r'.pos = k.val → r'.state = .moving)
        ∧ Keeps i (l.queue.filter (·.pos != k.val)) t
        ∧ (∀ h, r.state = .offered → l.dir = .outward → k.val = l.n - 1 → l.lEnd.head = some h → s.bus.urgent.length < 8 →
            (t.lane i).lEnd.state = .idle ∧ (t.lane i).lEnd.head = none
            ∧ s.bus.urgent ++ [wireWithdraw s i .liftEnd 0 h.id] <+: t.bus.urgent)
        ∧ (∀ o, r.state = .offered → l.dir = .outward → k.val ≠ l.n - 1 → l.lEnd.second = some o → s.bus.urgent.length < 8 →
            (t.lane i).lEnd.second = none ∧ s.bus.urgent ++ [wireWithdraw s i .liftEnd 1 o.id] <+: t.bus.urgent)
        ∧ (∀ o, r.state = .offered → l.dir = .inward → l.sEnd.offer = some o → s.bus.urgent.length < 8 →
            (t.lane i).sEnd.state = .idle ∧ (t.lane i).sEnd.offer = none
            ∧ s.bus.urgent ++ [wireWithdraw s i .shuttleEnd 0 o.id] <+: t.bus.urgent))
    ∧ (l.Alive → l.sEnd.state = .reserved → l.Edge (.stop 0) false → l.NoMoveAt 0 →
      ∃ t, exec (.debounceTimerExpiry i (.stop 0)) s = .next t ∧ Stopped i .phantom s t)
    ∧ (∀ h, l.Alive → l.lEnd.state = .reserved → l.lEnd.hand = some h →
      (l.Edge .lSill false → ∃ t, exec (.debounceTimerExpiry i .lSill) s = .next t ∧ Stopped i .sillBlocked s t)
      ∧ (∀ k : Fin 4, (k.val = 0 → sFree) → l.NoMoveAt k →
        (h.kind = .give → k.val = l.n - 1 → l.Edge (.stop k) false →
          ∃ t, exec (.debounceTimerExpiry i (.stop k)) s = .next t ∧ Stopped i .phantom s t)
        ∧ (∀ r, h.kind = .take → (k.val = l.n - 1 ∨ (k.val = l.n - 2 ∧ h.second.isSome = true)) → l.Edge (.stop k) true →
            l.recordAt k = some r → r.state = .leaving →
          ∃ t, exec (.debounceTimerExpiry i (.stop k)) s = .next t ∧ Stopped i .stranded s t)))

/-- The class of a sample against a lane's thresholds (R35). -/
def sampleClass (c : LaneSettings) (v : Nat) : CurrentClass :=
  if v < c.currentLow then .below else if v ≤ c.currentHigh then .inside else .above

/-- A sample within a settling interval counts nothing; a counted sample of the run's class extends the run, to at most 15,
and one of another class starts a run of 1. Where the run does not reach the persistence with it, that is all. The sample with
which it does takes its class, and while the node is LOADING no more than that. Taken in LISTENING or RUNNING it is judged by the
drive condition: ABOVE while commanded is OVERLOAD, INSIDE or ABOVE while not commanded is DRIVE_STUCK, BELOW while commanded is
NO_LOAD once per drive run. -/
def Obligations.SamplesAreCountedAndTheTakenClassJudged : Prop :=
  ∀ (s : State) (i : LaneId) (v : BitVec 12), s.Quiet → s.settingsTaken = true → (s.lane i).state ≠ .disabled →
    let x := (s.lane i).sensing
    let k := sampleClass (s.conf i) v.toNat
    let n := (s.conf i).persistence
    let taken := x.settleLeft = 0 ∧ ((k = x.runClass ∧ x.runCount + 1 = n ∧ x.runCount < 15) ∨ (k ≠ x.runClass ∧ n = 1))
    (∀ m, x.settleLeft = m + 1 →
      exec (.currentSample i v) s =
        .next (s.setLane i { s.lane i with sensing := { x with settleLeft := m } }))
    ∧ (x.settleLeft = 0 → k = x.runClass → (x.runCount + 1 ≠ n ∧ x.runCount < 15 ∨ x.runCount = 15 ∧ n ≤ 15) →
      exec (.currentSample i v) s =
        .next (s.setLane i { s.lane i with sensing := { x with runCount := min 15 (x.runCount + 1) } }))
    ∧ (x.settleLeft = 0 → k ≠ x.runClass → n ≠ 1 →
      exec (.currentSample i v) s =
        .next (s.setLane i { s.lane i with sensing := { x with runClass := k, runCount := 1 } }))
    ∧ (taken → s.node = .loading →
      exec (.currentSample i v) s =
        .next (s.setLane i { s.lane i with sensing := { x with runClass := k, runCount := n, heldClass := k } }))
    ∧ (taken → (s.node = .listening ∨ s.node = .running) →
      ∃ t, exec (.currentSample i v) s = .next t ∧ (t.lane i).sensing.heldClass = k
        ∧ (t.lane i).sensing.runClass = k
        ∧ (k = .above → x.commanded = true → (t.lane i).state = .faulted ∧ Raised .overload s t)
        ∧ (k ≠ .below → x.commanded = false → (t.lane i).state = .faulted ∧ Raised .driveStuck s t)
        ∧ (k = .below → x.commanded = true → x.noLoad = false →
            (t.lane i).sensing.noLoad = true ∧ (t.lane i).state = (s.lane i).state ∧ Raised .noLoad s t)
        ∧ (k = .below → (x.commanded = false ∨ x.noLoad = true) → t.log = s.log)
        ∧ (k = .inside → x.commanded = true → t.log = s.log))

/-! ### Lanes and tote records (Chapter 1) -/

/-- A move timer that expires with the move in progress raises MOVE_TIMEOUT and stops the lane; the MOVING record is SEATED
if its stop eye is blocked and STRANDED otherwise. An entry timer that expires in a put raises ENTRY_TIMEOUT in the same
way, and its END is STRANDED or FAULTED by the S-sill. -/
def Obligations.MoveAndEntryTimersStopTheLane : Prop :=
  ∀ (s : State) (i : LaneId), s.Quiet →
    let l := s.lane i
    (l.state = .running ∨ l.state = .draining ∨ l.state = .turning) →
    (l.move.isSome = true → l.moveTimer.isSome = true →
      ∃ t, exec (.moveTimerExpiry i) s = .next t ∧ (t.lane i).state = .faulted ∧ (t.lane i).AtRest
        ∧ Raised .moveTimeout s t
        ∧ ∀ r ∈ l.queue, r.state = .moving →
            { r with state := if l.stopBlocked r.pos then ToteState.seated else .stranded } ∈ (t.lane i).queue)
    ∧ (∀ id k len, l.sEnd.state = .transfer → l.sEnd.hand = some (.put id k len) → l.sEnd.timer.isSome = true →
      (l.lEnd.state = .idle ∨ l.lEnd.state = .offering) → s.bus.urgent.length < 8 →
      ∃ t, exec (.entryTimerExpiry i) s = .next t ∧ (t.lane i).state = .faulted ∧ (t.lane i).AtRest
        ∧ Raised .entryTimeout s t
        ∧ s.bus.urgent ++ [wireEnded s i .shuttleEnd (if l.blocked .sSill then 3 else 4) 1 id none] <+: t.bus.urgent)

/-- A lane fault raised for a lane in RUNNING, DRAINING or TURNING stops it: FAULTED and at rest, no offer and no turnaround
left, its records SEATED or STRANDED, its direction and the other lane unchanged. The level hold is set by it exactly where the
kind escalates. An empty first-fault record is filled with the lane, the tote named, the frame in hand and the tracker's data as
they stood. -/
def Obligations.LaneFaultStopsTheLane : Prop :=
  ∀ (b : LaneBlock) (i : LaneId) (k : FaultKind) (tote : Option ToteId) (s : State), (s.lane i).Alive →
    let t := logAll (raiseLaneFault b i k tote s)
    let l := s.lane i
    (t.lane i).state = .faulted ∧ (t.lane i).AtRest ∧ (t.lane i).turnaround = none
      ∧ (t.lane i).lEnd.head = none ∧ (t.lane i).lEnd.second = none ∧ (t.lane i).sEnd.offer = none
      ∧ (∀ r ∈ (t.lane i).queue, r.state = .seated ∨ r.state = .stranded)
      ∧ (t.lane i).dir = l.dir ∧ t.lane (otherLane i) = s.lane (otherLane i)
      ∧ Raised k s t
      ∧ (s.unlogged = [] →
          t.levelHold = (s.levelHold || (decide ((faultIndex k).val < 13) && (s.log.kind k).escalate)))
      ∧ (s.unlogged = [] → s.bus.urgent.length + 3 ≤ 8 → s.bus.routine.length < 8 → s.log.first = none → (s.log.kind k).masked = false →
          t.log.first = some
            { occurrence :=
                { kind := k, lane := some i, tote := tote, frame := s.cause
                  track :=
                    if l.tracker.running then
                      some { count := l.tracker.count
                             offset := match l.tracker.active with
                               | some g => if g = .t3 ∨ g = .t4 then l.tracker.d2 else l.tracker.d1
                               | none => none }
                    else none }
              time := s.timeBase, multiple := false })

/-- A record qualifies for a move: SEATED, not at the exit, its next position free (R13 condition 5). -/
def qualifies (l : Lane) (r : Tote) : Bool := r.state == .seated && r.pos != l.exitPos && l.free (l.nextPos r.pos)

/-- A move starts for the qualifying record nearest the exit: it is MOVING to its next position, both zones run in the flow
direction and the move timer starts; with its next stop eye blocked the lane raises PHANTOM instead. With a move in progress, or
held, in a lane that is not RUNNING or DRAINING, before LISTENING, or with no record that qualifies, none starts. -/
def Obligations.MoveStartsNearestTheExit : Prop :=
  ∀ (i : LaneId) (s : State),
    let l := s.lane i
    (∀ near r far, l.queue = near ++ r :: far → (∀ q ∈ near, qualifies l q = false) → qualifies l r = true →
      l.move = none → (l.state = .running ∨ l.state = .draining) → l.effHold = false →
      (s.node = .listening ∨ s.node = .running) →
      let t := evalMove i s
      (l.stopBlocked (l.nextPos r.pos) = false →
        (t.lane i).move = some ⟨r.pos, l.nextPos r.pos, false⟩ ∧ (t.lane i).moveTimer = some (s.conf i).moveTime
        ∧ (t.lane i).queue = l.queue.map (fun q =>
            if q.pos = r.pos then { q with state := .moving, pos := l.nextPos r.pos } else q)
        ∧ (t.lane i).zones = (l.zones.setIfInBounds r.pos (if l.dir = .outward then Drive.forward else .reverse)).setIfInBounds
            (l.nextPos r.pos) (if l.dir = .outward then .forward else .reverse)
        ∧ t.lane (otherLane i) = s.lane (otherLane i) ∧ t.bus = s.bus ∧ t.log = s.log)
      ∧ (l.stopBlocked (l.nextPos r.pos) = true → Stopped i .phantom s (logAll t)))
    ∧ ((∀ r ∈ l.queue, qualifies l r = false) ∨ l.move.isSome = true ∨ l.effHold = true
        ∨ (l.state ≠ .running ∧ l.state ≠ .draining) ∨ (s.node ≠ .listening ∧ s.node ≠ .running) → evalMove i s = s)

/-- The edges of a move: the source eye clears, and the source is vacated; then the destination eye blocks, and the move is
complete: the zones stop, the timer stops, and the record is SEATED at the destination, where an offer or the next move may take
it up. A destination that blocks first, or a source that blocks again, raises PHANTOM and stops the lane. The other two edges only
settle. -/
def Obligations.MoveEndsAtTheDestinationEye : Prop :=
  ∀ (s : State) (i : LaneId) (m : Move) (k : Fin 4), s.Quiet → (s.node = .listening ∨ s.node = .running) →
    let l := s.lane i
    l.move = some m → m.src ≠ m.dst →
    (k.val = m.src → l.Edge (.stop k) true →
      exec (.debounceTimerExpiry i (.stop k)) s =
        .next (s.setLane i { l.took (.stop k) with move := some { m with vacated := true } }))
    ∧ (((k.val = m.src ∧ m.vacated = false ∧ l.Edge (.stop k) false) ∨ (k.val = m.dst ∧ l.Edge (.stop k) true)) →
      exec (.debounceTimerExpiry i (.stop k)) s = .next (s.setLane i (l.took (.stop k))))
    ∧ (l.Alive → l.Edge (.stop k) false → ((k.val = m.dst ∧ m.vacated = false) ∨ (k.val = m.src ∧ m.vacated = true)) →
      ∃ t, exec (.debounceTimerExpiry i (.stop k)) s = .next t ∧ Stopped i .phantom s t)
    ∧ (k.val = m.dst → m.vacated = true → l.Edge (.stop k) false →
      let seated := l.queue.map fun r => if r.state = .moving then { r with state := .seated } else r
      let zones := (l.zones.setIfInBounds m.src .stop).setIfInBounds m.dst .stop
      let ended : Lane := { l.took (.stop k) with queue := seated, zones := zones, move := none, moveTimer := none }
      let asSeated (r : Tote) : Tote := if r.state = .offered then { r with state := .seated } else r
      ((l.effHold = true ∨ ∀ r ∈ seated, qualifies ended r = false) →
        ∃ t, exec (.debounceTimerExpiry i (.stop k)) s = .next t
          ∧ (t.lane i).move = none ∧ (t.lane i).moveTimer = none ∧ (t.lane i).zones = zones
          ∧ (t.lane i).queue.map asSeated = seated.map asSeated ∧ (t.lane i).state = l.state
          ∧ t.lane (otherLane i) = s.lane (otherLane i))
      ∧ (∀ near r far, seated = near ++ r :: far → (∀ q ∈ near, qualifies ended q = false) → qualifies ended r = true →
          l.effHold = false → (l.state = .running ∨ l.state = .draining) → ended.stopBlocked (l.nextPos r.pos) = false →
          (l.lEnd.head = none ∨ (l.recordAt (l.n - 1)).isSome = true) →
        ∃ t, exec (.debounceTimerExpiry i (.stop k)) s = .next t
          ∧ (t.lane i).move = some ⟨r.pos, l.nextPos r.pos, false⟩ ∧ (t.lane i).moveTimer = some (s.conf i).moveTime))

/-! ### The group table (Chapter 3) -/

/-- R59: every record of an OUT lane that carries a group has the class that the group table gives it as it stands. -/
def classedNow (g : GroupNo) (t : State) : Prop :=
  ∀ i, (t.lane i).dir = .outward → ∀ r ∈ (t.lane i).queue, r.carries g = true → r.cls = some (classify t.entryOf r)

/-- A GROUP OPEN makes or re-opens the entry of its group with the frame's cursor, window and last seq and an empty mask.
With 16 entries and none of its group it is not entered and GROUP_TABLE_FULL is raised. Group 0 is ignored. A GROUP CLOSE closes
the entry of its group, which stays while a record of either lane carries the group and is removed otherwise. A group with no
entry, and group 0, are ignored by it. Where either sets the entry, every record of an OUT lane that carries the group ends with the
class of the entry as it then stands. -/
def Obligations.GroupOpenAndCloseSetTheEntry : Prop :=
  (∀ (s : State) (f : Frame) (rest : List Frame), s.Quiet → s.TakesHead 0x18 f rest →
    let g := f.byte 0
    let count : BitVec 12 := f.seq 4
    let e : GroupEntry :=
      { group := g, state := .opened, cursor := f.seq 1, window := max 1 (min 32 (f.byte 3).toNat), mask := 0
        last := if count = 0 then none else some (f.seq 1 + count - 1) }
    (g = 0 → exec .groupOpen s = .next (s.answered rest []))
    ∧ (g ≠ 0 → ((∃ e', s.entryOf g = some e') ∨ s.groups.length < 16) →
      ∃ t, exec .groupOpen s = .next t ∧ t.bus.received = rest ∧ t.entryOf g = some e ∧ classedNow g t
        ∧ ∀ e' ∈ s.groups, e'.group ≠ g → e'.state = .opened → e' ∈ t.groups)
    ∧ (g ≠ 0 → s.entryOf g = none → 16 ≤ s.groups.length →
      ∃ t, exec .groupOpen s = .next t ∧ t.bus.received = rest ∧ t.groups = s.groups ∧ Raised .groupTableFull s t))
  ∧ (∀ (s : State) (f : Frame) (rest : List Frame), s.Quiet → s.TakesHead 0x19 f rest →
    let g := f.byte 0
    (g = 0 ∨ s.entryOf g = none → exec .groupClose s = .next (s.answered rest []))
    ∧ (∀ e, g ≠ 0 → s.GroupLaw → s.entryOf g = some e →
      ∃ t, exec .groupClose s = .next t ∧ t.bus.received = rest
        ∧ t.entryOf g = (if t.carried g then some { e with state := .closed } else none)
        ∧ (e.state = .opened → classedNow g t)))

/-- The update steps of PASSED: the merge cursor moves the view forward by 1 to 2047 steps and the mask down with it, a
passage within reach is marked, the cursor then runs over the set flags from flag 0, and the entry closes when the cursor
stands one step beyond its last seq. Flag 0 is clear at the end. -/
def Obligations.PassedStepsMoveTheViewForward : Prop :=
  ∀ (q m : Seq) (e : GroupEntry),
    let dm := distance e.cursor m
    let c1 : Seq := if 1 ≤ dm ∧ dm ≤ 2047 then m else e.cursor
    let mask1 : BitVec 32 := if 1 ≤ dm ∧ dm ≤ 2047 then e.mask >>> dm else e.mask
    let d := distance c1 q
    let mask2 : BitVec 32 := if d ≤ 31 then mask1 ||| BitVec.ofNat 32 (2 ^ d) else mask1
    ∃ k, k ≤ 32 ∧ (∀ j, j < k → mask2.getLsbD j = true) ∧ mask2.getLsbD k = false
      ∧ let c3 : Seq := c1 + BitVec.ofNat 12 k
        passedEntry q m e =
          { e with
            cursor := c3, mask := mask2 >>> k
            state := if (match e.last with | some l => distance l c3 == 1 | none => false) then .closed else e.state }

/-- A PASSED for an OPEN entry, or for a group learned from it, leaves the entry as the update steps make it, removed where
they close it and no record carries the group, and every record of an OUT lane that carries it with the class of the entry as it
then stands; a passage 32 to 2047 steps ahead raises SEQ_RANGE. A CLOSED entry and group 0 ignore it, and a full table raises
GROUP_TABLE_FULL. -/
def Obligations.PassedUpdatesItsEntry : Prop :=
  ∀ (s : State) (f : Frame) (rest : List Frame), s.Quiet → s.GroupLaw → s.TakesHead 0x1A f rest →
    let g := f.byte 0
    let q := f.seq 1
    let m := f.seq 3
    let applied (e : GroupEntry) : Prop :=
      ∃ t, exec .passed s = .next t ∧ t.bus.received = rest
        ∧ t.entryOf g =
            (if (passedEntry q m e).state = .closed ∧ t.carried g = false then none else some (passedEntry q m e))
        ∧ classedNow g t
        ∧ (let c1 := if 1 ≤ distance e.cursor m ∧ distance e.cursor m ≤ 2047 then m else e.cursor
           32 ≤ distance c1 q → distance c1 q ≤ 2047 → Raised .seqRange s t)
    (g = 0 → exec .passed s = .next (s.answered rest []))
    ∧ (∀ e, g ≠ 0 → s.entryOf g = some e → e.state = .opened → applied e)
    ∧ (∀ e, g ≠ 0 → s.entryOf g = some e → e.state = .closed → exec .passed s = .next (s.answered rest []))
    ∧ (g ≠ 0 → s.entryOf g = none → s.groups.length < 16 →
        applied { group := g, state := .opened, cursor := m, window := s.settings.groupWindow, mask := 0, last := none })
    ∧ (g ≠ 0 → s.entryOf g = none → 16 ≤ s.groups.length →
        ∃ t, exec .passed s = .next t ∧ t.bus.received = rest ∧ t.groups = s.groups ∧ Raised .groupTableFull s t)

/-- The release class of a record, by the table of R57, and the classes that allow an offer. A record created in an OUT lane
takes its class, and one created in an IN lane is not classed. -/
def Obligations.ReleaseClassesFollowTheTable : Prop :=
  ∀ (entry : GroupNo → Option GroupEntry) (t : Tote),
    (∀ c, eligibleClass c = true ↔ c ≠ .ahead ∧ c ≠ .unknownGroup)
    ∧ (∀ (s : State) (i : LaneId),
        ((s.lane i).dir = .outward → (s.classCreated i t).cls = some (classify s.entryOf t))
        ∧ ((s.lane i).dir = .inward → s.classCreated i t = t))
    ∧ (t.kind = .loose ∨ t.kind = .inbound ∨ t.id = none → classify entry t = .loose)
    ∧ ∀ g q, t.kind = .grouped g q → t.id ≠ none →
      (entry g = none → classify entry t = .unknownGroup)
      ∧ ∀ e, entry g = some e → e.window ≤ 32 →
        (e.state = .closed → classify entry t = .loose)
        ∧ (e.state = .opened →
          let d := distance e.cursor q
          (2048 ≤ d → classify entry t = .late)
          ∧ (d < e.window → e.mask.getLsbD d = false → classify entry t = .inWindow)
          ∧ (d < e.window → e.mask.getLsbD d = true → classify entry t = .duplicate)
          ∧ (e.window ≤ d → d ≤ 2047 → classify entry t = .ahead))

/-- A group frame that reclassifies the record at the exit of an OUT lane tells its L-end engine. An OFFERED record whose class no
longer allows an offer has it withdrawn, a standing second with it, and is SEATED; a SEATED one whose class now allows an offer is
offered, with its late flag, where nothing else stands in the way. Where the notice to the other lane escalates a fault to a level
hold, the engine may take that hold first: the offer is then made pending by the latch. -/
def Obligations.ReclassificationReachesTheOffers : Prop :=
  ∀ (c : Instr) (code : BitVec 6) (f : Frame) (rest : List Frame) (s t : State) (i : LaneId) (r r' : Tote),
    ((c = .groupOpen ∧ code = 0x18) ∨ (c = .groupClose ∧ code = 0x19) ∨ (c = .passed ∧ code = 0x1A)) →
    s.Quiet → s.bus.urgent = [] → s.TakesHead code f rest → exec c s = .next t →
    let l := s.lane i
    l.dir = .outward → l.recordAt (l.n - 1) = some r → (t.lane i).recordAt (l.n - 1) = some r' →
    (∀ h, r.state = .offered → l.lEnd.head = some h → mayLeave r = true → mayLeave r' = false →
      (t.lane i).lEnd.state = .idle ∧ (t.lane i).lEnd.head = none ∧ r'.state = .seated
      ∧ wireWithdraw s i .liftEnd 0 h.id ∈ t.bus.urgent
      ∧ ∀ o, l.lEnd.second = some o → wireWithdraw s i .liftEnd 1 o.id ∈ t.bus.urgent)
    ∧ (r.state = .seated → mayLeave r = false → mayLeave r' = true → l.lEnd.state = .idle → l.lEnd.head = none →
      (∀ q ∈ l.queue, q.state ≠ .offered) → (l.state = .running ∨ l.state = .draining) → l.effHold = false →
      s.available (liftPeer i) = true →
      wireOffer s i .liftEnd 0 (lateNow r') r' ∈ t.bus.urgent
      ∨ (s.levelHold = false ∧ t.levelHold = true ∧ ((t.lane i).lLatch = true ∨ (t.lane i).state = .faulted)))

/-! ### Offers (Chapters 4 and 5) -/

/-- The L-end engine makes its head offer for an eligible SEATED record at n−1 of an OUT lane, and its second for one at n−2 while a
head stands; the S-end engine makes its offer for a SEATED record at position 0 of an IN lane. Each needs the lane RUNNING or
DRAINING, the node LISTENING or RUNNING and the partner PRESENT and in service; where only a hold stands in the way the end's latch is
set, and otherwise nothing changes. The record is OFFERED, and the OFFER carries its fields. At each BEACON an OFFERING end appends
its standing offers again, the head before the second. -/
def Obligations.OffersAreMadeAndRepeated : Prop :=
  (∀ (s : State) (i : LaneId),
    let l := s.lane i
    let ready (p : PeerId) : Prop :=
      (l.state = .running ∨ l.state = .draining) ∧ (s.node = .listening ∨ s.node = .running)
        ∧ (s.peer p).state = .present ∧ (s.peer p).inService = true
    let lift : PeerId := match i with | .lane0 => .liftA | .lane1 => .liftB
    let offeredAt (k : Nat) : List Tote := l.queue.map fun q => if q.pos = k then { q with state := .offered } else q
    let sent (x : Frame) : State := { s with bus := { s.bus with urgent := s.bus.urgent ++ [x] } }
    ((l.recordAt (l.n - 1) = none ∨ l.lEnd.head.isSome = true) → evalHead i s = s)
    ∧ (∀ r, l.recordAt (l.n - 1) = some r → l.lEnd.head = none →
      let due := l.dir = .outward ∧ r.state = .seated ∧ mayLeave r = true
        ∧ (l.lEnd.state = .idle ∨ l.lEnd.state = .offering) ∧ ready lift
      (¬ due → evalHead i s = s)
      ∧ (due → l.effHold = true → evalHead i s = s.setLane i { l with lLatch := true })
      ∧ (due → l.effHold = false → s.bus.urgent.length < 8 →
          evalHead i s = (sent (wireOffer s i .liftEnd 0 (lateNow r) r)).setLane i
            { l with queue := offeredAt (l.n - 1), lEnd := { l.lEnd with state := .offering, head := some ⟨r.id⟩ } }))
    ∧ ((l.recordAt (l.n - 2) = none ∨ l.lEnd.head = none ∨ l.lEnd.second.isSome = true) → evalSecond i s = s)
    ∧ (∀ r, l.recordAt (l.n - 2) = some r → l.lEnd.head.isSome = true → l.lEnd.second = none →
      let due := r.state = .seated ∧ mayLeave r = true ∧ ready lift
      (¬ due → evalSecond i s = s)
      ∧ (due → l.effHold = true → evalSecond i s = s.setLane i { l with lLatch := true })
      ∧ (due → l.effHold = false → s.bus.urgent.length < 8 →
          evalSecond i s = (sent (wireOffer s i .liftEnd 1 (lateNow r) r)).setLane i
            { l with queue := offeredAt (l.n - 2), lEnd := { l.lEnd with second := some ⟨r.id⟩ } }))
    ∧ (l.recordAt 0 = none → evalShuttle i s = s)
    ∧ (∀ r, l.recordAt 0 = some r →
      let due := l.dir = .inward ∧ r.state = .seated ∧ l.sEnd.state = .idle ∧ ready .shuttle
      (¬ due → evalShuttle i s = s)
      ∧ (due → l.effHold = true → evalShuttle i s = s.setLane i { l with sLatch := true })
      ∧ (due → l.effHold = false → s.bus.urgent.length < 8 →
          evalShuttle i s = (sent (wireOffer s i .shuttleEnd 0 false r)).setLane i
            { l with queue := offeredAt 0, sEnd := { l.sEnd with state := .offering, offer := some ⟨r.id⟩ } })))
  ∧ (∀ s : State, s.Quiet → (s.node = .listening ∨ s.node = .running) → s.bus.beaconTimer.isSome = true →
    ∃ t, exec .beaconTimerExpiry s = .next t ∧ s.bus.urgent <+: t.bus.urgent ∧ (∀ i, t.lane i = s.lane i)
      ∧ ((∀ i, (s.lane i).lEnd.state ≠ .offering ∧ (s.lane i).sEnd.state ≠ .offering) → t.bus.urgent = s.bus.urgent)
      ∧ ∀ i, s.bus.urgent.length + 6 ≤ 8 →
        let l := s.lane i
        (∀ r, l.lEnd.state = .offering → l.lEnd.head.isSome = true → l.recordAt (l.n - 1) = some r →
          wireOffer s i .liftEnd 0 (lateNow r) r ∈ t.bus.urgent
          ∧ ∀ q, l.lEnd.second.isSome = true → l.recordAt (l.n - 2) = some q →
              [wireOffer s i .liftEnd 0 (lateNow r) r, wireOffer s i .liftEnd 1 (lateNow q) q].Sublist t.bus.urgent)
        ∧ (∀ r, l.sEnd.state = .offering → l.recordAt 0 = some r → wireOffer s i .shuttleEnd 0 false r ∈ t.bus.urgent))

/-! ### The shuttle end (Chapter 4) -/

/-- A PUT, FETCH, TAKE or GIVE that a check of its table matches is answered with that row's verdict, and nothing else changes.
The count field of a lift-end REPLY is that of the handover in hand for a repeat and 0 for a refusal; that of a shuttle-end REPLY
is 0, which is the model's reading (log entry 23). -/
def Obligations.RequestIsAnsweredByTheFirstCheck : Prop :=
  (∀ (s : State) (f : Frame) (rest : List Frame) (i : LaneId) (v : Byte), s.Quiet → s.bus.urgent.length < 8 →
    (s.TakesHead 0x0C f rest → f.byte 1 = wireLane i → firstMatch (putRows s i f) = some v →
      exec .put s = .next (s.answered rest [wireReply s i .shuttleEnd 0x0C v 0 (f.toteId 2)]))
    ∧ (s.TakesHead 0x0D f rest → f.lane = i → firstMatch (fetchRows s i f) = some v →
      exec .fetch s = .next (s.answered rest [wireReply s i .shuttleEnd 0x0D v 0 (f.toteId 2)])))
  ∧ (∀ (s : State) (f : Frame) (rest : List Frame) (v : Byte), s.Quiet → s.bus.urgent.length < 8 →
    let count : Byte := if v = 0 then countInHand (s.lane f.lane) else 0
    (s.TakesHead 0x0A f rest → firstMatch (takeRows s f.lane f) = some v →
      exec .take s = .next (s.answered rest [wireReply s f.lane .liftEnd 0x0A v count (f.toteId 3)]))
    ∧ (s.TakesHead 0x0B f rest → firstMatch (giveRows s f.lane f) = some v →
      exec .give s = .next (s.answered rest [wireReply s f.lane .liftEnd 0x0B v count (f.toteId 2)])))

/-- A PUT that passes every check is accepted: the REPLY, an ENTERING record at position 0 that is the tail of the queue and
is classed, and the S-end RESERVED with the put in hand and the put window running. A FETCH that passes every check is accepted:
the REPLY, the offered record LEAVING, zone 0 in REVERSE, its reverse output alone high, and the S-end in TRANSFER with the fetch in
hand and the fetch window running. The count field of 0 in both REPLYs is the model's reading (log entry 23). -/
def Obligations.PutAndFetchAreAccepted : Prop :=
  (∀ (s : State) (f : Frame) (rest : List Frame) (i : LaneId), s.Quiet → s.bus.urgent.length < 8 →
    s.TakesHead 0x0C f rest → f.byte 1 = wireLane i → firstMatch (putRows s i f) = none →
    let blank : Tote :=
      { id := f.toteId 2, kind := f.putKind, len := f.putLen, pos := 0, state := .entering, cls := none, advised := false }
    let c := classify s.entryOf blank
    ∃ t, exec .put s = .next t ∧ t.bus.received = rest
      ∧ t.bus.urgent = s.bus.urgent ++ [wireReply s i .shuttleEnd 0x0C 0 0 (f.toteId 2)]
      ∧ t.lane i =
          { s.lane i with
            queue := (s.lane i).queue
              ++ [{ blank with cls := some c, advised := c == .late || c == .duplicate || c == .unknownGroup }]
            sEnd := { state := .reserved, hand := some (.put (f.toteId 2) f.putKind f.putLen), offer := none
                      timer := some (s.conf i).putWindow } }
      ∧ t.lane (otherLane i) = s.lane (otherLane i) ∧ t.groups = s.groups
      ∧ (c = .late → Raised .seqLate s t) ∧ (c = .duplicate → Raised .seqDuplicate s t)
      ∧ (c = .unknownGroup → Raised .groupUnknown s t))
  ∧ (∀ (s : State) (f : Frame) (rest : List Frame), s.Quiet → s.bus.urgent.length < 8 →
    s.TakesHead 0x0D f rest → firstMatch (fetchRows s f.lane f) = none →
    let l := s.lane f.lane
    ∃ t, exec .fetch s = .next t ∧ t.bus.received = rest
      ∧ t.bus.urgent = s.bus.urgent ++ [wireReply s f.lane .shuttleEnd 0x0D 0 0 (f.toteId 2)]
      ∧ { t.lane f.lane with sensing := l.sensing } =
          { l with
            queue := l.queue.map fun r => if r.state = .offered then { r with state := .leaving } else r
            zones := l.zones.set 0 .reverse
            sEnd := { state := .transfer, hand := some (.fetch (f.toteId 2) false), offer := none
                      timer := some (s.conf f.lane).fetchWindow } }
      ∧ (t.lane f.lane).sensing.commanded = true ∧ (t.lane f.lane).outputs[0] = (false, true)
      ∧ t.lane (otherLane f.lane) = s.lane (otherLane f.lane))

/-- A PUT with lane choice EITHER is answered as the PUT that names the chosen lane: the lane of the handover it repeats,
else the accepting lane, with both accepting the lane with fewer records and lane 0 on a tie, and with neither lane 0. On a
part with one lane it is lane 0. That one with no tote id which repeats the puts of both lanes is answered at lane 0 is the
model's choice (log entry 44). -/
def Obligations.PutToEitherLaneChoosesOne : Prop :=
  ∀ (s : State) (f : Frame) (rest : List Frame), s.TakesHead 0x0C f rest → f.byte 1 ≠ 0 → f.byte 1 ≠ 1 →
    let v0 := firstMatch (putRows s .lane0 f)
    let v1 := firstMatch (putRows s .lane1 f)
    let chosen : LaneId :=
      if s.straps.twoLanes = false then .lane0
      else if v0 = some 0 then .lane0
      else if v1 = some 0 then .lane1
      else if v0 = none ∧ v1 = none then
        (if s.lane1.queue.length < s.lane0.queue.length then .lane1 else .lane0)
      else if v1 = none then .lane1
      else .lane0
    exec .put s =
      exec .put
        { s with bus := { s.bus with received := { f with payload := f.payload.set 1 (wireLane chosen) } :: rest } }

/-- A put from RESERVED to its end: the S-sill blocks, and zone 0 runs FORWARD with the entry timer; the S-sill stands clear and stop
eye 0 blocked, and the put is DONE, its record no longer ENTERING and zone 0 at STOP. A fetch: the S-sill blocks, and the sill-passed note is set; with
the note set the S-sill and stop eye 0 stand clear, and the fetch is DONE, its record gone and zone 0 at STOP. Any other edge of the two eyes in
TRANSFER only settles. -/
def Obligations.ShuttleTransferEndsAtItsEyes : Prop :=
  ∀ (s : State) (i : LaneId), s.Quiet → (s.node = .listening ∨ s.node = .running) →
    let l := s.lane i
    (l.sEnd.state = .reserved → l.Edge .sSill false →
      ∃ t, exec (.debounceTimerExpiry i .sSill) s = .next t ∧ t.bus = s.bus ∧ t.log = s.log
        ∧ { t.lane i with sensing := l.sensing } =
            { l with
              zones := l.zones.set 0 .forward
              sEnd := { l.sEnd with state := .transfer, timer := some (s.conf i).moveTime } }
        ∧ (t.lane i).blocked .sSill = true ∧ (t.lane i).sensing.commanded = true ∧ (t.lane i).outputs[0] = (true, false)
        ∧ t.lane (otherLane i) = s.lane (otherLane i))
    ∧ ∀ (e : InputId) (high : Bool), l.sEnd.state = .transfer → l.Edge e high → (e = .sSill ∨ (e = .stop 0 ∧ l.NoMoveAt 0)) →
      let sill : Bool := if e = .sSill then !high else l.blocked .sSill
      let eye : Bool := if e = .stop 0 then !high else l.stopBlocked 0
      (∀ id k len, l.sEnd.hand = some (.put id k len) → l.dir = .outward →
        (sill = false → eye = true → s.bus.urgent.length < 8 →
          ∃ t, exec (.debounceTimerExpiry i e) s = .next t
            ∧ s.bus.urgent ++ [wireEnded s i .shuttleEnd 0 1 id none] <+: t.bus.urgent
            ∧ (t.lane i).sEnd.state = .idle ∧ (t.lane i).sEnd.hand = none ∧ Rests i 0 t
            ∧ (∀ r ∈ (t.lane i).queue, r.state ≠ .entering) ∧ Keeps i l.queue t
            ∧ ∀ r ∈ l.queue, r.state = .entering →
                ∃ r' ∈ (t.lane i).queue, r'.id = r.id ∧ r'.kind = r.kind ∧ r'.len = r.len)
        ∧ ((sill = true ∨ eye = false) → exec (.debounceTimerExpiry i e) s = .next (s.setLane i (l.took e))))
      ∧ (∀ id p, l.sEnd.hand = some (.fetch id p) →
        let noted : Bool := p || (e == .sSill && !high)
        (noted = true → sill = false → eye = false → s.bus.urgent.length < 8 →
          ∃ t, exec (.debounceTimerExpiry i e) s = .next t
            ∧ s.bus.urgent ++ [wireEnded s i .shuttleEnd 0 1 id none] <+: t.bus.urgent
            ∧ ((t.lane i).sEnd.state = .idle ∨ (t.lane i).sEnd.state = .offering) ∧ (t.lane i).sEnd.hand = none
            ∧ Rests i 0 t ∧ (∀ r ∈ (t.lane i).queue, r.state ≠ .leaving) ∧ Keeps i (l.queue.filter (·.state != .leaving)) t)
        ∧ ((noted = false ∨ sill = true ∨ eye = true) →
          exec (.debounceTimerExpiry i e) s = .next (s.setLane i
            { l.took e with sEnd := { l.sEnd with hand := some (.fetch id noted) } })))

/-- A put window that expires in RESERVED lapses the put: END LAPSED with reason TIMEOUT, its record gone and the S-end IDLE, and
with the S-sill blocked SILL_BLOCKED stops the lane. A fetch window that expires ends the fetch LAPSED, its record restored, when
the tote still stands at stop eye 0 with the sill clear, and raises STRANDED otherwise, its END by the S-sill. That an expiry taken
before the sill-clear edge that would complete the fetch finds the S-sill still blocked, and so ends STRANDED, is the model's choice
(log entry 48). -/
def Obligations.ShuttleWindowsEndTheHandover : Prop :=
  ∀ (s : State) (i : LaneId), s.Quiet → s.bus.urgent.length < 8 →
    let l := s.lane i
    (∀ id k len, l.dir = .outward → l.sEnd.state = .reserved → l.sEnd.hand = some (.put id k len) →
      l.sEnd.timer.isSome = true →
      ∃ t, exec (.putWindowExpiry i) s = .next t
        ∧ s.bus.urgent ++ [wireEnded s i .shuttleEnd 1 1 id none] <+: t.bus.urgent
        ∧ (t.lane i).sEnd.state = .idle ∧ (t.lane i).sEnd.hand = none ∧ Rests i 0 t
        ∧ (∀ r ∈ (t.lane i).queue, r.state ≠ .entering) ∧ Keeps i (l.queue.filter (·.state != .entering)) t
        ∧ ((l.state = .running ∨ l.state = .draining) → l.blocked .sSill = true → Stopped i .sillBlocked s t))
    ∧ (∀ id p, l.sEnd.state = .transfer → l.sEnd.hand = some (.fetch id p) → l.sEnd.timer.isSome = true →
      (l.blocked .sSill = false → l.stopBlocked 0 = true →
        ∃ t, exec (.fetchWindowExpiry i) s = .next t
          ∧ s.bus.urgent ++ [wireEnded s i .shuttleEnd 1 1 id none] <+: t.bus.urgent
          ∧ ((t.lane i).sEnd.state = .idle ∨ (t.lane i).sEnd.state = .offering) ∧ Rests i 0 t
          ∧ (∀ r ∈ (t.lane i).queue, r.state ≠ .leaving) ∧ Keeps i l.queue t
          ∧ (l.dir = .inward → ∀ r ∈ l.queue, r.state = .leaving → r.pos = 0 → Restored i r t))
      ∧ ((l.blocked .sSill = true ∨ l.stopBlocked 0 = false) → l.Alive →
        (l.lEnd.state = .idle ∨ l.lEnd.state = .offering) →
        ∃ t, exec (.fetchWindowExpiry i) s = .next t ∧ (t.lane i).state = .faulted ∧ Raised .stranded s t
          ∧ s.bus.urgent ++ [wireEnded s i .shuttleEnd (if l.blocked .sSill then 3 else 4) 1 id none] <+: t.bus.urgent))

/-! ### The lift end (Chapter 5) -/

/-- A TAKE that passes every check is accepted: the REPLY with the granted count, the taken records LEAVING, a second offer
that is not granted withdrawn with its record SEATED, and the L-end RESERVED with its flags and the align window set. A GIVE that
passes every check is accepted: the REPLY, an ENTERING record of kind INBOUND at position n−1 that is the tail of the queue, and
the L-end RESERVED in the same way. -/
def Obligations.TakeAndGiveAreAccepted : Prop :=
  (∀ (s : State) (f : Frame) (rest : List Frame), s.Quiet → s.bus.urgent.length + 1 < 8 →
    s.TakesHead 0x0A f rest → firstMatch (takeRows s f.lane f) = none →
    let i := f.lane
    let l := s.lane i
    let two : Bool := f.byte 2 == 2 && l.lEnd.second.isSome
    let lenAt (k : Nat) : LenClass := ((l.queue.find? fun r => r.pos == k).map (·.len)).getD .long
    ∃ t, exec .take s = .next t ∧ t.bus.received = rest
      ∧ t.bus.urgent =
          s.bus.urgent ++ [wireReply s i .liftEnd 0x0A 0 (if two then 2 else 1) (f.toteId 3)]
            ++ (match l.lEnd.second with
                | some o => if two then [] else [wireWithdraw s i .liftEnd 1 o.id]
                | none => [])
      ∧ t.lane i =
          { l with
            queue := l.queue.map fun r =>
              if r.pos = l.n - 2 ∧ l.lEnd.second.isSome = true then
                { r with state := if two then .leaving else .seated }
              else if r.pos = l.n - 1 then { r with state := .leaving }
              else r
            lEnd :=
              { state := .reserved, head := none, second := none
                hand := some
                  { kind := .take, first := { id := f.toteId 3, len := lenAt (l.n - 1) }
                    second := if two then l.lEnd.second.map fun o => { id := o.id, len := lenAt (l.n - 2) } else none
                    firstGone := false }
                frameFlag := false, inputFlag := (l.input .aligned).debounced == some true
                timer := some (s.conf i).alignWindow } }
      ∧ t.lane (otherLane i) = s.lane (otherLane i))
  ∧ (∀ (s : State) (f : Frame) (rest : List Frame), s.Quiet → s.bus.urgent.length < 8 →
    s.TakesHead 0x0B f rest → firstMatch (giveRows s f.lane f) = none →
    let i := f.lane
    let l := s.lane i
    ∃ t, exec .give s = .next t ∧ t.bus.received = rest
      ∧ t.bus.urgent = s.bus.urgent ++ [wireReply s i .liftEnd 0x0B 0 1 (f.toteId 2)]
      ∧ t.lane i =
          { l with
            queue := l.queue
              ++ [{ id := f.toteId 2, kind := .inbound, len := giveLength f, pos := l.n - 1, state := .entering
                    cls := none, advised := false }]
            lEnd :=
              { state := .reserved, head := none, second := none
                hand := some { kind := .give, first := { id := f.toteId 2, len := giveLength f }, second := none, firstGone := false }
                frameFlag := false, inputFlag := (l.input .aligned).debounced == some true
                timer := some (s.conf i).alignWindow } }
      ∧ t.lane (otherLane i) = s.lane (otherLane i))

/-- R97: GO for the handover in hand of a lane: the align window stops, the tracker starts at count 0 with its first target and its
timers, the zones of the handover run and the end is in TRANSFER. -/
def goneTo (s t : State) (i : LaneId) (h : LiftHand) : Prop :=
  let l := s.lane i
  let flow : Drive := if h.kind = .take then .forward else .reverse
  let zone := l.zones.setIfInBounds (l.n - 1) flow
  t.bus.urgent = s.bus.urgent ++ [wireGo s i (if h.kind = .take then 0 else 1) (if h.second.isSome then 2 else 1)]
    ∧ { t.lane i with sensing := l.sensing } =
        { l with
          zones := if h.second.isSome then zone.setIfInBounds (l.n - 2) flow else zone
          lEnd := { l.lEnd with state := .transfer, frameFlag := false, inputFlag := false, timer := none }
          tracker :=
            { l.tracker with
              running := true, count := 0, refA := l.encA, refB := l.encB
              job := some { kind := h.kind, len1 := h.first.len, len2 := h.second.map (·.len) }
              active := some (if h.kind = .take then .t1 else .g1)
              d1 := none, d2 := none, span := false, timedOut := false
              transfer := some (s.conf i).transferTime
              stall := if l.tracker.untracked then none else some (s.conf i).stallTime } }
    ∧ t.lane (otherLane i) = s.lane (otherLane i)

/-- R104: a lift-end transfer interrupted. In SPAN, or where the taken records and the blocked eyes of their positions differ in
number, the lane raises STRANDED and stops, its END STRANDED or FAULTED; otherwise END ABORTED, tracker and zones stopped, a give's record
gone and a take's records restored at the blocked eyes in order, but for one that at once begins a move from its eye. -/
def interruptedTo (s t : State) (i : LaneId) (h : LiftHand) : Prop :=
  let l := s.lane i
  let places := if h.second.isSome then [l.n - 1, l.n - 2] else [l.n - 1]
  let differ := h.kind = .take ∧ (places.filter l.stopBlocked).length ≠ (l.queue.filter (·.state == .leaving)).length
  let count : Byte := if h.kind = .give then 1 else if h.firstGone then 1 else 0
  let ended (outcome : Byte) : Prop :=
    s.bus.urgent ++ [wireEnded s i .liftEnd outcome count h.first.id (h.second.bind (·.id))] <+: t.bus.urgent
  ((l.tracker.span = true ∨ differ) → l.Alive → Stopped i .stranded s t ∧ ended (if l.tracker.span then 3 else 4))
    ∧ (l.tracker.span = false → ¬ differ →
        ended 2 ∧ (t.lane i).tracker.running = false ∧ (∀ k ∈ places, Rests i k t)
        ∧ ((t.lane i).lEnd.state = .idle ∨ (t.lane i).lEnd.state = .offering)
        ∧ (∀ r ∈ (t.lane i).queue, r.state ≠ (if h.kind = .take then ToteState.leaving else .entering))
        ∧ (h.kind = .give → Keeps i (l.queue.filter (·.state != .entering)) t)
        ∧ (h.kind = .take → Keeps i l.queue t)
        ∧ (h.kind = .take → l.dir = .outward →
            ∀ r p, (r, p) ∈ (l.queue.filter (·.state == .leaving)).zip (places.filter l.stopBlocked) →
              Restored i { r with pos := p } t
              ∨ ((t.lane i).move = some ⟨p, p + 1, false⟩ ∧ { r with pos := p + 1, state := .moving } ∈ (t.lane i).queue))
        ∧ (h.kind = .take → l.effHold = true → ∀ k ∈ places, l.stopBlocked k = true →
            ∃ r ∈ (t.lane i).queue, r.pos = k ∧ r.state = .seated))

/-- An ALIGNED from the lane's lift sets the frame flag of a RESERVED end, and the input flag follows the edges of the aligned
input; the flag that completes the pair is followed by GO. Any other ALIGNED is ignored. In TRANSFER an aligned input that goes
inactive interrupts the handover. That both flags are clear after GO is the model's choice (log entry 24). -/
def Obligations.AlignmentLeadsToGo : Prop :=
  (∀ (s : State) (f : Frame) (rest : List Frame), s.Quiet → s.TakesHead 0x0F f rest →
    let i := f.lane
    let l := s.lane i
    (f.src ≠ liftNode i ∨ l.lEnd.state ≠ .reserved → exec .aligned s = .next (s.answered rest []))
    ∧ ∀ h, f.src = liftNode i → l.lEnd.state = .reserved → l.lEnd.hand = some h →
      (l.lEnd.inputFlag = false →
        exec .aligned s = .next ((s.answered rest []).setLane i { l with lEnd := { l.lEnd with frameFlag := true } }))
      ∧ (l.lEnd.inputFlag = true → s.bus.urgent.length < 8 →
        ∃ t, exec .aligned s = .next t ∧ t.bus.received = rest ∧ goneTo s t i h))
  ∧ (∀ (s : State) (i : LaneId) (h : LiftHand) (high : Bool), s.Quiet → (s.node = .listening ∨ s.node = .running) →
    let l := s.lane i
    l.Edge .aligned high → l.lEnd.hand = some h →
    (l.lEnd.state = .reserved → (high = false ∨ l.lEnd.frameFlag = false) →
      exec (.debounceTimerExpiry i .aligned) s =
        .next (s.setLane i { l.took .aligned with lEnd := { l.lEnd with inputFlag := high } }))
    ∧ (l.lEnd.state = .reserved → high = true → l.lEnd.frameFlag = true → s.bus.urgent.length < 8 →
      ∃ t, exec (.debounceTimerExpiry i .aligned) s = .next t ∧ goneTo s t i h)
    ∧ (l.lEnd.state = .transfer → high = true →
      exec (.debounceTimerExpiry i .aligned) s = .next (s.setLane i (l.took .aligned)))
    ∧ (l.lEnd.state = .transfer → high = false → s.bus.urgent.length < 8 →
      ∃ t, exec (.debounceTimerExpiry i .aligned) s = .next t ∧ interruptedTo s t i h))

/-- An ABORT from a node that is not the partner of the end it names, or to an end that is IDLE or OFFERING, is ignored. From
the partner it cancels a RESERVED handover with END ABORTED, a take's records restored and a give's or put's record removed. In
TRANSFER it interrupts a take or give as a lost alignment does; a put with the S-sill clear ends ABORTED, its record removed, and
with the sill blocked the lane raises STRANDED; a fetch with its tote still at stop eye 0 and the sill clear ends ABORTED, its record
restored, and otherwise the lane raises STRANDED. A RESERVED put whose S-sill is blocked is cancelled in the same way, and the
blocked sill then stops the lane: that is the model's reading (log entry 25). -/
def Obligations.AbortEndsTheHandover : Prop :=
  ∀ (s : State) (f : Frame) (rest : List Frame), s.Quiet → s.TakesHead 0x11 f rest →
    let i := f.lane
    let l := s.lane i
    (f.laneEnd = .liftEnd → (f.src ≠ liftNode i ∨ l.lEnd.state = .idle ∨ l.lEnd.state = .offering) →
      exec .abort s = .next (s.answered rest []))
    ∧ (f.laneEnd = .shuttleEnd → (f.src ≠ s.shuttleNode ∨ l.sEnd.state = .idle ∨ l.sEnd.state = .offering) →
      exec .abort s = .next (s.answered rest []))
    ∧ (∀ h, f.laneEnd = .liftEnd → f.src = liftNode i → l.lEnd.state = .reserved → l.lEnd.hand = some h →
        h.firstGone = false → s.bus.urgent.length < 8 →
      ∃ t, exec .abort s = .next t ∧ t.bus.received = rest
        ∧ s.bus.urgent
            ++ [wireEnded s i .liftEnd 2 (if h.kind = .take then 0 else 1) h.first.id (h.second.bind (·.id))] <+: t.bus.urgent
        ∧ ((t.lane i).lEnd.state = .idle ∨ (t.lane i).lEnd.state = .offering)
        ∧ (∀ r ∈ (t.lane i).queue, r.state ≠ (if h.kind = .take then ToteState.leaving else .entering))
        ∧ (h.kind = .give → Keeps i (l.queue.filter (·.state != .entering)) t)
        ∧ (h.kind = .take → Keeps i l.queue t ∧ ∀ r, l.HeldToTake r → Restored i r t))
    ∧ (∀ h, f.laneEnd = .liftEnd → f.src = liftNode i → l.lEnd.state = .transfer → l.lEnd.hand = some h →
        s.bus.urgent.length < 8 →
      ∃ t, exec .abort s = .next t ∧ t.bus.received = rest ∧ interruptedTo s t i h)
    ∧ (f.laneEnd = .shuttleEnd → f.src = s.shuttleNode → s.bus.urgent.length + 1 < 8 →
      let ended (id : Option ToteId) (outcome : Byte) (t : State) : Prop :=
        wireEnded s i .shuttleEnd outcome 1 id none ∈ t.bus.urgent
      let stranded (id : Option ToteId) : Prop :=
        ∃ t, exec .abort s = .next t ∧ t.bus.received = rest ∧ Stopped i .stranded s t
          ∧ ended id (if l.blocked .sSill then 3 else 4) t
      (∀ id k len, l.sEnd.hand = some (.put id k len) → l.dir = .outward →
        (l.sEnd.state = .reserved ∨ (l.sEnd.state = .transfer ∧ l.blocked .sSill = false) →
          ∃ t, exec .abort s = .next t ∧ t.bus.received = rest
            ∧ s.bus.urgent ++ [wireEnded s i .shuttleEnd 2 1 id none] <+: t.bus.urgent
            ∧ (t.lane i).sEnd.state = .idle ∧ Rests i 0 t ∧ (∀ r ∈ (t.lane i).queue, r.state ≠ .entering)
            ∧ Keeps i (l.queue.filter (·.state != .entering)) t
            ∧ ((l.state = .running ∨ l.state = .draining) → l.blocked .sSill = true → Stopped i .sillBlocked s t))
        ∧ (l.sEnd.state = .transfer → l.blocked .sSill = true → l.Alive → stranded id))
      ∧ (∀ id p, l.sEnd.state = .transfer → l.sEnd.hand = some (.fetch id p) →
        (l.blocked .sSill = false → l.stopBlocked 0 = true →
          ∃ t, exec .abort s = .next t ∧ t.bus.received = rest
            ∧ s.bus.urgent ++ [wireEnded s i .shuttleEnd 2 1 id none] <+: t.bus.urgent
            ∧ ((t.lane i).sEnd.state = .idle ∨ (t.lane i).sEnd.state = .offering) ∧ Rests i 0 t
            ∧ (∀ r ∈ (t.lane i).queue, r.state ≠ .leaving) ∧ Keeps i l.queue t
            ∧ (l.dir = .inward → ∀ r ∈ l.queue, r.state = .leaving → r.pos = 0 → Restored i r t))
        ∧ ((l.blocked .sSill = true ∨ l.stopBlocked 0 = false) → l.Alive → stranded id)))

/-- An align window that expires in RESERVED lapses the handover: END LAPSED with reason ALIGN, a take's records restored and
a give's record removed. With the L-sill blocked SILL_BLOCKED then stops the lane. -/
def Obligations.AlignWindowLapsesTheHandover : Prop :=
  ∀ (s : State) (i : LaneId) (h : LiftHand), s.Quiet → s.bus.urgent.length < 8 →
    let l := s.lane i
    l.lEnd.state = .reserved → l.lEnd.hand = some h → l.lEnd.timer.isSome = true →
    ∃ t, exec (.alignWindowExpiry i) s = .next t
      ∧ s.bus.urgent ++ [wireEnded s i .liftEnd 1 2 h.first.id (h.second.bind (·.id))] <+: t.bus.urgent
      ∧ ((t.lane i).lEnd.state = .idle ∨ (t.lane i).lEnd.state = .offering)
      ∧ (∀ r ∈ (t.lane i).queue, r.state ≠ (if h.kind = .take then ToteState.leaving else .entering))
      ∧ (h.kind = .give → Keeps i (l.queue.filter (·.state != .entering)) t)
      ∧ (h.kind = .take → Keeps i l.queue t ∧ ∀ r, l.HeldToTake r → Restored i r t)
      ∧ ((l.state = .running ∨ l.state = .draining) → l.blocked .lSill = true → Stopped i .sillBlocked s t)

/-- The passes the L-end engine acts on, in the window or UNTRACKED. T2 of one tote, and T4, end the take DONE with its count, the
taken records gone; T2 of two totes removes the first record and sets the first-gone note, T3 active next; G3 ends the give DONE, its
record no longer ENTERING. Each END goes with the tracker and the zones stopped, and a blocked L-sill then stops the lane. -/
def Obligations.TransferEndsAtItsLastTarget : Prop :=
  ∀ (s : State) (i : LaneId) (h : LiftHand) (j : TrackJob) (g : Target), s.Quiet → (s.node = .listening ∨ s.node = .running) →
    let l := s.lane i
    let x := measureAt j l.tracker.count
    let want := wantAt (s.conf i) l.tracker j g
    let tol := tolAt (s.conf i) g
    l.lEnd.state = .transfer → l.lEnd.hand = some h → l.tracker.running = true → l.tracker.job = some j →
    l.tracker.active = some g → inList j g = true →
    (l.tracker.untracked = true ∨ (want - tol ≤ x ∧ x ≤ want + tol)) →
    (l.Edge .lSill true →
      ((g = .t2 ∧ h.second = none) ∨ g = .t4 → h.kind = .take → s.bus.urgent.length < 8 →
        ∃ t, exec (.debounceTimerExpiry i .lSill) s = .next t
          ∧ s.bus.urgent ++ [wireEnded s i .liftEnd 0 (if h.second.isSome then 2 else 1) h.first.id (h.second.bind (·.id))]
              <+: t.bus.urgent
          ∧ ((t.lane i).lEnd.state = .idle ∨ (t.lane i).lEnd.state = .offering) ∧ (t.lane i).tracker.running = false
          ∧ Rests i (l.n - 1) t ∧ (h.second.isSome = true → Rests i (l.n - 2) t)
          ∧ (∀ r ∈ (t.lane i).queue, r.state ≠ .leaving) ∧ Keeps i (l.queue.filter (·.state != .leaving)) t)
      ∧ (g = .t2 → h.second.isSome = true → j.len2.isSome = true →
        ∃ t, exec (.debounceTimerExpiry i .lSill) s = .next t ∧ Keeps i l.queue.tail t
          ∧ ((l.effHold = true ∨ l.move.isSome = true ∨ ∀ r ∈ l.queue, r.state ≠ .seated) →
              t.lane i =
                { l.took .lSill with
                  queue := l.queue.tail
                  lEnd := { l.lEnd with hand := some { h with firstGone := true } }
                  tracker := { l.tracker with span := false, active := some .t3 } })
          ∧ ((t.lane i).state = .faulted ∨ (t.lane i).lEnd.hand = some { h with firstGone := true })))
    ∧ (∀ k : Fin 4, g = .g3 → h.kind = .give → l.dir = .inward → 2 ≤ l.n → k.val = l.n - 1 → l.NoMoveAt k →
      l.Edge (.stop k) false → s.bus.urgent.length < 8 →
      ∃ t, exec (.debounceTimerExpiry i (.stop k)) s = .next t
        ∧ s.bus.urgent ++ [wireEnded s i .liftEnd 0 1 h.first.id (h.second.bind (·.id))] <+: t.bus.urgent
        ∧ (t.lane i).lEnd.state = .idle ∧ (t.lane i).tracker.running = false ∧ Rests i (l.n - 1) t
        ∧ (∀ r ∈ (t.lane i).queue, r.state ≠ .entering) ∧ Keeps i l.queue t
        ∧ (∀ r ∈ l.queue, r.state = .entering → ∃ r' ∈ (t.lane i).queue, r'.id = r.id ∧ r'.len = r.len)
        ∧ ((l.state = .running ∨ l.state = .draining) → l.blocked .lSill = true → Stopped i .sillBlocked s t))

/-! ### The transfer tracker (Chapter 6) -/

/-- The count that a change of one encoder input makes (R113): input A leads in the FORWARD sense. -/
def edgeSense (e : EncInput) (a b : Bool) : Int :=
  match e with
  | .a => if a = b then 1 else -1
  | .b => if a = b then -1 else 1

/-- A change of an encoder input moves the count of a running tracker by one in the sense of the quadrature sequence and
restarts the stall timer of a TRACKED transfer. Where the active target has then waited beyond its window in TRACKED mode, the lane
raises EDGE_LATE or LENGTH and stops; else where the measure runs out at either end, or the count would pass its limit, RUNOUT. A
stopped tracker does not decode. -/
def Obligations.EncoderEdgeMovesTheCount : Prop :=
  ∀ (s : State) (i : LaneId) (e : EncInput), s.Quiet →
    let l := s.lane i
    let a := if e = .a then !l.encA else l.encA
    let b := if e = .b then !l.encB else l.encB
    (l.tracker.running = false → exec (.encoderEdge i e) s = .next (s.setLane i { l with encA := a, encB := b }))
    ∧ ∀ j g, l.tracker.running = true → l.tracker.refA = l.encA → l.tracker.refB = l.encB →
        l.tracker.job = some j → l.tracker.active = some g →
      let c := s.conf i
      let count := l.tracker.count + edgeSense e l.encA l.encB
      let m := measureAt j count
      let late := l.tracker.untracked = false ∧ wantAt c l.tracker j g + tolAt c g < m
      let beyond := 32767 < count ∨ count < -32767
      (¬ beyond → ¬ late → ¬ runsOut c l.tracker j m →
        exec (.encoderEdge i e) s = .next (s.setLane i
          { l with
            encA := a, encB := b
            tracker :=
              { l.tracker with
                refA := a, refB := b, count := count
                stall := if l.tracker.untracked then none else some c.stallTime } }))
      ∧ (¬ beyond → late → l.Alive →
        ∃ t, exec (.encoderEdge i e) s = .next t ∧ Stopped i (if blocksAt g then .edgeLate else .length) s t
          ∧ (t.lane i).tracker.count = count)
      ∧ (¬ beyond → ¬ late → runsOut c l.tracker j m → l.Alive →
        ∃ t, exec (.encoderEdge i e) s = .next t ∧ Stopped i .runout s t ∧ (t.lane i).tracker.count = count)
      ∧ (beyond → l.Alive →
        ∃ t, exec (.encoderEdge i e) s = .next t ∧ Stopped i .runout s t ∧ (t.lane i).tracker.count = l.tracker.count)

/-- A stall timer that expires in TRACKED mode raises ENCODER_LOST and goes UNTRACKED when the held current class is INSIDE,
and raises STALL otherwise. A transfer timer that expires sets the time-out note in TRACKED mode and raises TRANSFER_TIME in
UNTRACKED mode. -/
def Obligations.TrackerTimersActByModeAndCurrent : Prop :=
  ∀ (s : State) (i : LaneId), s.Quiet →
    let l := s.lane i
    l.tracker.running = true → (l.state = .running ∨ l.state = .draining ∨ l.state = .turning) →
    (l.tracker.untracked = false → l.tracker.stall.isSome = true → l.sensing.heldClass = .inside →
        l.tracker.timedOut = false →
      ∃ t, exec (.stallTimerExpiry i) s = .next t ∧ Raised .encoderLost s t
        ∧ t.lane i = { l with tracker := { l.tracker with untracked := true, stall := none } })
    ∧ (l.tracker.untracked = false → l.tracker.stall.isSome = true → l.sensing.heldClass = .inside →
        l.tracker.timedOut = true →
      ∃ t, exec (.stallTimerExpiry i) s = .next t ∧ Raised .encoderLost s t ∧ Raised .transferTime s t
        ∧ (t.lane i).state = .faulted ∧ (t.lane i).tracker.untracked = true)
    ∧ (l.tracker.untracked = false → l.tracker.stall.isSome = true → l.sensing.heldClass ≠ .inside →
      ∃ t, exec (.stallTimerExpiry i) s = .next t ∧ Raised .stall s t ∧ (t.lane i).state = .faulted)
    ∧ (l.tracker.untracked = false → l.tracker.transfer.isSome = true →
      exec (.transferTimerExpiry i) s = .next (s.setLane i
        { l with tracker := { l.tracker with timedOut := true, transfer := none } }))
    ∧ (l.tracker.untracked = true → l.tracker.transfer.isSome = true →
      ∃ t, exec (.transferTimerExpiry i) s = .next t ∧ Raised .transferTime s t ∧ (t.lane i).state = .faulted)

/-- The edge of the active target of a transfer. Within the tolerance, or UNTRACKED, a target that only the tracker acts on passes:
a sill-block target takes its anchor offset in TRACKED mode and sets SPAN, G2 clears SPAN, and the next target is active. In
TRACKED mode an edge before the window raises EDGE_EARLY at a block target and LENGTH at a clear target. An edge of the L-sill, or in
a give of stop eye n−1, that is not the active target's raises EDGE_EARLY in either mode. The lane stops at each. -/
def Obligations.TargetsAreJudgedByTheirWindows : Prop :=
  ∀ (s : State) (i : LaneId) (h : LiftHand) (j : TrackJob) (g : Target), s.Quiet → (s.node = .listening ∨ s.node = .running) →
    let l := s.lane i
    let x := measureAt j l.tracker.count
    let want := wantAt (s.conf i) l.tracker j g
    let tol := tolAt (s.conf i) g
    let sillBlocks := g = .t1 ∨ g = .t3 ∨ g = .g1
    l.lEnd.state = .transfer → l.lEnd.hand = some h → l.tracker.running = true → l.tracker.job = some j →
    l.tracker.active = some g → inList j g = true →
    ((sillBlocks ∨ g = .g2) → l.Edge .lSill (!blocksAt g) →
      (l.tracker.untracked = true ∨ (want - tol ≤ x ∧ x ≤ want + tol)) →
      exec (.debounceTimerExpiry i .lSill) s = .next (s.setLane i
        { l.took .lSill with
          tracker :=
            { l.tracker with
              d1 := if l.tracker.untracked = false ∧ (g = .t1 ∨ g = .g1) then some (x - want) else l.tracker.d1
              d2 := if l.tracker.untracked = false ∧ g = .t3 then some (x - want) else l.tracker.d2
              span := blocksAt g, active := followingTarget j g } }))
    ∧ (l.Alive → g ≠ .g3 → l.Edge .lSill (!blocksAt g) → l.tracker.untracked = false → x < want - tol →
      ∃ t, exec (.debounceTimerExpiry i .lSill) s = .next t ∧ Stopped i (if blocksAt g then .edgeEarly else .length) s t)
    ∧ (∀ high, l.Alive → l.Edge .lSill high → (g = .g3 ∨ high = blocksAt g) →
      ∃ t, exec (.debounceTimerExpiry i .lSill) s = .next t ∧ Stopped i .edgeEarly s t)
    ∧ (∀ (k : Fin 4) high, l.Alive → h.kind = .give → 2 ≤ l.n → k.val = l.n - 1 → l.NoMoveAt k → l.Edge (.stop k) high →
      (g ≠ .g3 ∨ high = true ∨ (l.tracker.untracked = false ∧ x < want - tol)) →
      ∃ t, exec (.debounceTimerExpiry i (.stop k)) s = .next t ∧ Stopped i .edgeEarly s t)

/-! ### Turnaround (Chapter 7) -/

/-- A TURN that a check matches is refused with that row's verdict, and nothing else changes. One that asks for the current
direction is answered ACCEPTED and then TURNED, held or not, and changes nothing. One accepted for the other direction: the REPLY,
the turnaround record and DRAINING with the drain timer. With the lane already empty and both ends IDLE it goes on to TURNING:
PROPOSE to a partner that is PRESENT or LATE, and a turnaround ended with TIMEOUT when that partner is ABSENT or LOST. -/
def Obligations.TurnIsAnsweredAndBegins : Prop :=
  (∀ (s : State) (f : Frame) (rest : List Frame), s.Quiet → s.bus.urgent.length + 1 < 8 → s.TakesHead 0x14 f rest →
    let i := f.lane
    let l := s.lane i
    (∀ v, firstMatch (turnRows s i f) = some v →
      exec .turn s = .next (s.answered rest [wireReply s i .shuttleEnd 0x14 v 0 none]))
    ∧ (firstMatch (turnRows s i f) = none → askedDir l f = l.dir →
      exec .turn s = .next (s.answered rest [wireReply s i .shuttleEnd 0x14 0 0 none, wireTurned s i l.dir 0])))
  ∧ (∀ (s : State) (f : Frame) (rest : List Frame), s.Quiet → s.bus.urgent.length + 1 < 8 → s.TakesHead 0x14 f rest →
    let i := f.lane
    let l := s.lane i
    let asked := askedDir l f
    let requester : Partner := if f.src = liftNode i then .lift else .shuttle
    let other : PeerId := if f.src = liftNode i then .shuttle else (match i with | .lane0 => .liftA | .lane1 => .liftB)
    let reply := wireReply s i .shuttleEnd 0x14 0 0 none
    firstMatch (turnRows s i f) = none → asked ≠ l.dir →
    ((l.queue ≠ [] ∨ l.sEnd.state ≠ .idle ∨ l.lEnd.state ≠ .idle) →
      exec .turn s = .next ((s.answered rest [reply]).setLane i
        { l with
          state := .draining
          turnaround := some { requester := requester, asked := asked, pending := false
                               drainTimer := some s.settings.drainTime, turnTimer := none } }))
    ∧ (l.queue = [] → l.sEnd.state = .idle → l.lEnd.state = .idle →
        ((s.peer other).state = .present ∨ (s.peer other).state = .late) →
      exec .turn s = .next ((s.answered rest [reply, wirePropose s i asked]).setLane i
        { l with
          state := .turning
          turnaround := some { requester := requester, asked := asked, pending := true
                               drainTimer := none, turnTimer := some s.settings.turnTime } }))
    ∧ (l.queue = [] → l.sEnd.state = .idle → l.lEnd.state = .idle →
        ((s.peer other).state = .absent ∨ (s.peer other).state = .lost) →
      ∃ t, exec .turn s = .next t ∧ (t.lane i).turnaround = none ∧ (t.lane i).dir = l.dir
        ∧ s.bus.urgent ++ [reply, wireTurned s i l.dir 2] <+: t.bus.urgent))

/-- An ANSWER from the other partner with a proposal pending ends the turnaround: yes gives the asked direction and outcome
TURNED, anything else the old direction and DECLINED. A blocked eye then puts the lane into FAULTED. Any other ANSWER is
ignored. The drain timer in DRAINING and the turn timer in TURNING end it with TIMEOUT. -/
def Obligations.AnswerAndTimersEndTheTurnaround : Prop :=
  (∀ (s : State) (f : Frame) (rest : List Frame), s.Quiet → s.bus.urgent.length < 8 → s.TakesHead 0x16 f rest →
    let i := f.lane
    let l := s.lane i
    (∀ r : Turnaround, s.TurningLaw → l.state = .turning → l.turnaround = some r → r.pending = true →
        f.src = (match r.requester with | .lift => s.shuttleNode | .shuttle => liftNode i) →
      let d := if f.byte 2 = 1 then r.asked else l.dir
      ∃ t, exec .answer s = .next t ∧ t.bus.received = rest ∧ (t.lane i).turnaround = none ∧ (t.lane i).dir = d
        ∧ s.bus.urgent ++ [wireTurned s i d (if f.byte 2 = 1 then 0 else 1)] <+: t.bus.urgent
        ∧ ((l.blocked .sSill = true ∨ l.blocked .lSill = true ∨ (∃ k, k < l.n ∧ l.stopBlocked k = true)) →
            (t.lane i).state = .faulted)
        ∧ (l.blocked .sSill = false → l.blocked .lSill = false →
            (∀ k, k < l.n → l.stopBlocked k = false) → (t.lane i).state = .running))
    ∧ ((l.state ≠ .turning ∨ l.turnaround = none
          ∨ (∃ r : Turnaround, l.turnaround = some r ∧ (r.pending = false
              ∨ f.src ≠ (match r.requester with | .lift => s.shuttleNode | .shuttle => liftNode i)))) →
      exec .answer s = .next (s.answered rest [])))
  ∧ (∀ (s : State) (i : LaneId) (r : Turnaround), s.Quiet → s.bus.urgent.length < 8 →
    (s.lane i).turnaround = some r →
    let ended (c : Instr) : Prop :=
      ∃ t, exec c s = .next t ∧ (t.lane i).turnaround = none ∧ (t.lane i).dir = (s.lane i).dir
        ∧ ((t.lane i).state = .running ∨ (t.lane i).state = .faulted)
        ∧ s.bus.urgent ++ [wireTurned s i (s.lane i).dir 2] <+: t.bus.urgent
    ((s.lane i).state = .draining → r.drainTimer.isSome = true → ended (.drainTimerExpiry i))
    ∧ (s.TurningLaw → (s.lane i).state = .turning → r.turnTimer.isSome = true → ended (.turnTimerExpiry i)))

/-! ### Holds and presence (Chapter 8) -/

/-- A LANE HOLD sets the lane hold of each lane its mask names, and a LANE RELEASE clears it; a release of both lanes clears
the level hold, unless a fault of the change sets it anew. Each is answered ACCEPTED before any other frame. An AISLE HOLD adds its
source to the holder set, or finds 8 others in it, sets the overflow flag and raises HOLDER_OVERFLOW. An AISLE RELEASE removes its
source, or with the all flag empties the set and clears the flag. -/
def Obligations.HoldFramesSetAndClearTheHolds : Prop :=
  (∀ (s : State) (f : Frame) (rest : List Frame), s.Quiet → s.bus.urgent.length < 8 →
    let named (i : LaneId) : Bool := (f.byte 1).getLsbD (match i with | .lane0 => 0 | .lane1 => 1)
    (s.TakesHead 0x20 f rest →
      ∃ t, exec .laneHold s = .next t ∧ t.bus.received = rest ∧ t.Quiet
        ∧ (∀ i, (t.lane i).laneHold = ((s.lane i).laneHold || named i))
        ∧ s.bus.urgent ++ [wireReply s .lane0 .liftEnd 0x20 0 0 none] <+: t.bus.urgent)
    ∧ (s.TakesHead 0x21 f rest →
      ∃ t, exec .laneRelease s = .next t ∧ t.bus.received = rest ∧ t.Quiet
        ∧ (∀ i, (t.lane i).laneHold = ((s.lane i).laneHold && !named i))
        ∧ s.bus.urgent ++ [wireReply s .lane0 .liftEnd 0x21 0 0 none] <+: t.bus.urgent
        ∧ (named .lane0 = true → named .lane1 = true →
            t.levelHold = false ∨ ∃ i, (s.lane i).state ≠ .faulted ∧ (t.lane i).state = .faulted)))
  ∧ (∀ (s : State) (f : Frame) (rest : List Frame), s.Quiet →
    (s.TakesHead 0x04 f rest →
      ∃ t, exec .aisleHold s = .next t ∧ t.bus.received = rest ∧ t.Quiet
        ∧ (f.src ∈ s.holders → t.holders = s.holders ∧ t.overflow = s.overflow)
        ∧ (f.src ∉ s.holders → s.holders.length < 8 → t.holders = s.holders ++ [f.src] ∧ t.overflow = s.overflow)
        ∧ (f.src ∉ s.holders → 8 ≤ s.holders.length →
            t.holders = s.holders ∧ t.overflow = true ∧ Raised .holderOverflow s t))
    ∧ (s.TakesHead 0x05 f rest →
      ∃ t, exec .aisleRelease s = .next t ∧ t.bus.received = rest ∧ t.Quiet
        ∧ ((f.byte 0).getLsbD 0 = true → t.holders = [] ∧ t.overflow = false)
        ∧ ((f.byte 0).getLsbD 0 = false →
            (∀ id, id ∈ t.holders ↔ id ∈ s.holders ∧ id ≠ f.src) ∧ t.overflow = s.overflow)))

/-- What a change of a lane's effective hold does, by a LANE HOLD or a LANE RELEASE of that lane alone. Set: an offer is withdrawn
and its end's latch set; a RESERVED handover lapses with END LAPSED HELD, a take's latch set with it; a TRANSFER goes on; a
turnaround ends, in TURNING with outcome HELD. Cleared: both latches clear, and an end whose latch was set makes its offer, unless
the lane unit evaluates its move first and finds the destination blocked, a PHANTOM.
In DRAINING the outcome is TIMEOUT where the lapse of an end empties the lane first: the model's choice (log entry 45). -/
def Obligations.HoldsReachTheEndsAndTheTurnaround : Prop :=
  ∀ (s : State) (f : Frame) (rest : List Frame) (i : LaneId), s.Quiet → s.bus.urgent.length + 7 ≤ 8 →
    let l := s.lane i
    let names (j : LaneId) : Bool := (f.byte 1).getLsbD (match j with | .lane0 => 0 | .lane1 => 1)
    l.state ≠ .disabled → names i = true → names (otherLane i) = false →
    let risky := l.blocked .sSill = true ∨ l.blocked .lSill = true ∨ l.state = .draining ∨ l.state = .turning
    (s.TakesHead 0x20 f rest → l.effHold = false →
      ∃ t, exec .laneHold s = .next t ∧ (t.lane i).effHold = true
        ∧ ((risky ∧ (t.lane i).state = .faulted)
          ∨ ((∀ o, l.sEnd.state = .offering → l.sEnd.offer = some o →
              (t.lane i).sEnd.state = .idle ∧ (t.lane i).sLatch = true ∧ wireWithdraw s i .shuttleEnd 0 o.id ∈ t.bus.urgent)
            ∧ (∀ id k len, l.sEnd.state = .reserved → l.sEnd.hand = some (.put id k len) → l.dir = .outward →
              (t.lane i).sEnd.state = .idle ∧ (∀ r ∈ (t.lane i).queue, r.state ≠ .entering)
              ∧ wireEnded s i .shuttleEnd 1 3 id none ∈ t.bus.urgent)
            ∧ (∀ o, l.lEnd.state = .offering → l.lEnd.head = some o →
              (t.lane i).lEnd.state = .idle ∧ (t.lane i).lLatch = true ∧ wireWithdraw s i .liftEnd 0 o.id ∈ t.bus.urgent
              ∧ ∀ o', l.lEnd.second = some o' → wireWithdraw s i .liftEnd 1 o'.id ∈ t.bus.urgent)
            ∧ (∀ h, l.lEnd.state = .reserved → l.lEnd.hand = some h →
              (t.lane i).lEnd.state = .idle ∧ (h.kind = .take → (t.lane i).lLatch = true)
              ∧ wireEnded s i .liftEnd 1 3 h.first.id (h.second.bind (·.id)) ∈ t.bus.urgent)
            ∧ (l.sEnd.state = .transfer → (t.lane i).sEnd = l.sEnd)
            ∧ (l.lEnd.state = .transfer → (t.lane i).lEnd = l.lEnd)))
        ∧ (l.turnaround.isSome = true → (l.state = .draining ∨ l.state = .turning) →
            (t.lane i).turnaround = none ∧ (t.lane i).dir = l.dir
            ∧ ((l.state = .turning ∨ (l.sEnd.state = .idle ∧ l.lEnd.state = .idle)) → s.TurningLaw →
                s.bus.urgent ++ [wireReply s .lane0 .liftEnd 0x20 0 0 none, wireTurned s i l.dir 3] <+: t.bus.urgent)
            ∧ ((t.lane i).state = .faulted ∨ wireTurned s i l.dir 3 ∈ t.bus.urgent ∨ wireTurned s i l.dir 2 ∈ t.bus.urgent)))
    ∧ (s.TakesHead 0x21 f rest → l.effHold = true → s.levelHold = false → s.holders = [] → s.overflow = false →
      ∃ t, exec .laneRelease s = .next t ∧ (t.lane i).sLatch = false ∧ (t.lane i).lLatch = false
        ∧ ∀ r, (l.state = .running ∨ l.state = .draining) → r.state = .seated →
          let offered (x : Frame) : Prop :=
            s.bus.urgent ++ [wireReply s .lane0 .liftEnd 0x21 0 0 none, x] <+: t.bus.urgent
              ∨ ((∃ q ∈ l.queue, qualifies l q = true ∧ l.stopBlocked (l.nextPos q.pos) = true)
                ∧ (t.lane i).state = .faulted ∧ Raised .phantom s t)
          (l.lLatch = true → l.dir = .outward → l.lEnd.state = .idle → l.lEnd.head = none →
            l.recordAt (l.n - 1) = some r → mayLeave r = true → s.available (liftPeer i) = true →
            offered (wireOffer s i .liftEnd 0 (lateNow r) r))
          ∧ (l.sLatch = true → l.dir = .inward → l.sEnd.state = .idle → l.recordAt 0 = some r →
            s.available .shuttle = true → offered (wireOffer s i .shuttleEnd 0 false r)))

/-- A silence timer that expires takes a PRESENT peer to LATE, its timer started for five more beacon periods, and a LATE
peer to LOST and out of service, its timer stopped and PEER_LOST raised. The other peers stay as they are. A partner that is LATE has
the offers made to it withdrawn, the end's latch as it was; one that is LOST ends a RESERVED handover with END LAPSED PEER_LOST, and as
the other partner of a TURNING lane the turnaround with TIMEOUT. Where the change escalates a fault of one lane to a level hold that is
new to the other, that lane's end may take the hold first: its offer is withdrawn with the latch set, its handover ends LAPSED HELD and
its turnaround with HELD, once. A BEACON that makes a partner available has the offers made that wait for it. -/
def Obligations.PeerChangesReachTheLanes : Prop :=
  (∀ (s : State) (p : PeerId), (s.peer p).timer.isSome = true →
    ((s.peer p).state = .present →
      ∃ t, exec (.silenceTimerExpiry p) s = .next t
        ∧ t.peer p = { s.peer p with state := .late, timer := some (5 * s.settings.beaconPeriod) }
        ∧ ∀ q, q ≠ p → t.peer q = s.peer q)
    ∧ ((s.peer p).state = .late →
      ∃ t, exec (.silenceTimerExpiry p) s = .next t
        ∧ t.peer p = { state := .lost, inService := false, timer := none } ∧ Raised .peerLost s t
        ∧ ∀ q, q ≠ p → t.peer q = s.peer q))
  ∧ (∀ (s t : State) (p : PeerId) (i : LaneId), s.Quiet → s.TurningLaw → s.bus.urgent.length + 7 ≤ 8 →
    (s.peer p).timer.isSome = true → exec (.silenceTimerExpiry p) s = .next t →
    let l := s.lane i
    let lift : PeerId := match i with | .lane0 => .liftA | .lane1 => .liftB
    let newlyHeld : Prop := p = .shuttle ∧ l.effHold = false ∧ s.levelHold = false ∧ t.levelHold = true
    ((s.peer p).state = .present → (s.peer p).inService = true →
      (∀ o, p = .shuttle → l.sEnd.state = .offering → l.sEnd.offer = some o →
        (t.lane i).sEnd.state = .idle ∧ wireWithdraw s i .shuttleEnd 0 o.id ∈ t.bus.urgent
        ∧ t.bus.urgent.count (wireWithdraw s i .shuttleEnd 0 o.id) = s.bus.urgent.count (wireWithdraw s i .shuttleEnd 0 o.id) + 1
        ∧ ((t.lane i).sLatch = l.sLatch ∨ (newlyHeld ∧ (t.lane i).sLatch = true)))
      ∧ (∀ o, p = lift → l.lEnd.state = .offering → l.lEnd.head = some o →
        (t.lane i).lEnd.state = .idle ∧ (t.lane i).lLatch = l.lLatch ∧ wireWithdraw s i .liftEnd 0 o.id ∈ t.bus.urgent
        ∧ ∀ o', l.lEnd.second = some o' → wireWithdraw s i .liftEnd 1 o'.id ∈ t.bus.urgent)
      ∧ (l.sEnd.state = .reserved → (t.lane i).sEnd = l.sEnd ∨ (t.lane i).state = .faulted ∨ t.levelHold ≠ s.levelHold)
      ∧ (l.lEnd.state = .reserved → (t.lane i).lEnd = l.lEnd ∨ (t.lane i).state = .faulted ∨ t.levelHold ≠ s.levelHold))
    ∧ ((s.peer p).state = .late →
      (∀ id k len, p = .shuttle → l.sEnd.state = .reserved → l.sEnd.hand = some (.put id k len) → l.dir = .outward →
        (t.lane i).sEnd.state = .idle ∧ (∀ r ∈ (t.lane i).queue, r.state ≠ .entering)
        ∧ (wireEnded s i .shuttleEnd 1 4 id none ∈ t.bus.urgent
          ∨ (newlyHeld ∧ wireEnded s i .shuttleEnd 1 3 id none ∈ t.bus.urgent)))
      ∧ (∀ h, p = lift → l.lEnd.state = .reserved → l.lEnd.hand = some h →
        (t.lane i).lEnd.state = .idle ∧ (t.lane i).lLatch = l.lLatch ∧ wireEnded s i .liftEnd 1 4 h.first.id (h.second.bind (·.id)) ∈ t.bus.urgent)
      ∧ (∀ r : Turnaround, l.state = .turning → l.turnaround = some r →
        p = (match r.requester with | .lift => .shuttle | .shuttle => lift) →
        (t.lane i).turnaround = none ∧ (t.lane i).dir = l.dir
        ∧ (wireTurned s i l.dir 2 ∈ t.bus.urgent ∨ (newlyHeld ∧ wireTurned s i l.dir 3 ∈ t.bus.urgent)))))
  ∧ (∀ (s t : State) (f : Frame) (i : LaneId), s.Quiet → (s.node = .listening ∨ s.node = .running) →
    f.cls = 6 → f.code = 0x01 → 1 ≤ f.payload.length → f.payload.length ≤ 12 → (f.byte 0).getLsbD 0 = true →
    s.bus.urgent.length + 6 ≤ 8 → exec (.frameReceived (lineBits f)) s = .next t →
    let l := s.lane i
    (l.state = .running ∨ l.state = .draining) → l.effHold = false →
    (∀ r, f.src = liftNode i → s.available (liftPeer i) = false → l.dir = .outward → l.lEnd.state = .idle → l.lEnd.head = none →
      l.recordAt (l.n - 1) = some r → r.state = .seated → mayLeave r = true →
      wireOffer s i .liftEnd 0 (lateNow r) r ∈ t.bus.urgent ∧ (t.lane i).lEnd.head = some ⟨r.id⟩)
    ∧ (∀ r, f.src = s.shuttleNode → s.available .shuttle = false → l.dir = .inward → l.sEnd.state = .idle →
      l.recordAt 0 = some r → r.state = .seated →
      wireOffer s i .shuttleEnd 0 false r ∈ t.bus.urgent ∧ (t.lane i).sEnd.offer = some ⟨r.id⟩))

/-! ### The fault log (Chapter 9) -/

/-- An occurrence is recorded: its kind's status is set and its count is one higher, at most 255; no other kind changes. Unmasked,
it fills an empty first-fault record with what it carries and the time base, or sets MULTIPLE in a filled one. A lane fault whose
escalate setting is set sets the level hold. A FAULT NOTICE is appended for the first occurrence of an unmasked kind; with the routine
queue full it is dropped, and TX_OVERFLOW is counted, twice where its own notice is due and dropped too. Nothing else changes.
Two occurrences of one block are taken in the order they were raised, and two of different blocks in either order. -/
def Obligations.OccurrenceIsRecorded : Prop :=
  (∀ (s : State) (a b : Handed), s.unlogged = [a, b] →
    let inOrder (x y : Handed) : Prop :=
      { logAll s with choices := s.choices } = { logOccurrence y.occurrence (logOccurrence x.occurrence s) with unlogged := [] }
    inOrder a b ∨ (a.block ≠ b.block ∧ inOrder b a))
  ∧ ∀ (s : State) (o : Occurrence),
    let t := logOccurrence o s
    let k := s.log.kind o.kind
    let notice := k.status = false ∧ k.masked = false
    { t with log := s.log, levelHold := s.levelHold, bus := s.bus } = s
    ∧ t.levelHold = (s.levelHold || (decide ((faultIndex o.kind).val < 13) && k.escalate))
    ∧ (¬ notice ∨ s.bus.routine.length < 8 →
      t.log.kind o.kind = { k with status := true, count := min 255 (k.count + 1) }
      ∧ (∀ k', k' ≠ o.kind → t.log.kind k' = s.log.kind k')
      ∧ t.log.first =
          (if k.masked then s.log.first
           else match s.log.first with
             | none => some { occurrence := o, time := s.timeBase, multiple := false }
             | some r => some { r with multiple := true })
      ∧ t.bus = if k.status = false ∧ k.masked = false
          then { s.bus with routine := s.bus.routine ++ [wireNotice s o] } else s.bus)
    ∧ (notice → 8 ≤ s.bus.routine.length → o.kind = .txOverflow →
      t.bus = s.bus ∧ (k.count ≤ 253 → t.log.kind .txOverflow = { k with status := true, count := k.count + 2 })
      ∧ (∀ k', k' ≠ .txOverflow → t.log.kind k' = s.log.kind k'))
    ∧ (notice → 8 ≤ s.bus.routine.length → o.kind ≠ .txOverflow →
      let x := s.log.kind .txOverflow
      t.bus = s.bus ∧ t.log.kind o.kind = { k with status := true, count := min 255 (k.count + 1) }
      ∧ (t.log.kind .txOverflow).status = true
      ∧ (x.count ≤ 253 → (t.log.kind .txOverflow).count = x.count + (if x.status = false ∧ x.masked = false then 2 else 1))
      ∧ (∀ k', k' ≠ o.kind → k' ≠ .txOverflow → t.log.kind k' = s.log.kind k')
      ∧ (∃ m, t.log.first = (match s.log.first with
          | none => some { occurrence := o, time := s.timeBase, multiple := m }
          | some r => some { r with multiple := true })))

/-- A FAULT CLEAR clears every status, sets every count to 0, empties the first-fault record and is answered ACCEPTED; the
masks, the escalate settings and everything else stand. -/
def Obligations.FaultClearEmptiesTheLog : Prop :=
  ∀ (s : State) (f : Frame) (rest : List Frame), s.Quiet → s.bus.urgent.length < 8 → s.TakesHead 0x24 f rest →
    ∃ t, exec .faultClear s = .next t
      ∧ { t with log := s.log } = s.answered rest [wireReply s .lane0 .liftEnd 0x24 0 0 none]
      ∧ t.log.first = none
      ∧ ∀ k, t.log.kind k = { s.log.kind k with status := false, count := 0 }

/-- The count of the kind with this number, as a byte. -/
def countByte (s : State) (number : Nat) : Byte :=
  BitVec.ofNat 8 ((s.log.kinds.toList.map (·.count)).getD (number - 1) 0)

/-- A FAULT QUERY is answered by FAULT REPORT frames that show the log, and changes nothing: selector 0 the statuses,
selectors 1 and 2 parts A and B of the first-fault record, selectors 3 and 4 the counts in two parts, 5 and above an empty
report. -/
def Obligations.FaultQueryReportsTheLog : Prop :=
  ∀ (s : State) (f : Frame) (rest : List Frame), s.Quiet → s.bus.routine.length + 1 < 8 → s.TakesHead 0x25 f rest →
    let reported (payloads : List (List Byte)) : Prop :=
      exec .faultQuery s =
        .next { s with bus := { s.bus with received := rest, routine := s.bus.routine ++ payloads.map (wireReport s) } }
    (f.byte 1 = 0 → ∃ x : BitVec 32, reported [0 :: wireId (some x)] ∧ x.getLsbD 30 = false ∧ x.getLsbD 31 = false
        ∧ ∀ k, x.getLsbD (faultIndex k).val = (s.log.kind k).status)
    ∧ (f.byte 1 = 1 → s.log.first = none → reported [[1, 0, 255, 255, 255, 255, 255, 0, 0, 0, 0]])
    ∧ (∀ r, f.byte 1 = 1 → s.log.first = some r →
        reported [[1, BitVec.ofNat 8 ((faultIndex r.occurrence.kind).val + 1),
            (match r.occurrence.lane with | some .lane0 => 0 | some .lane1 => 1 | none => 255)]
          ++ wireId r.occurrence.tote ++ wireId (some r.time)])
    ∧ (f.byte 1 = 2 → s.log.first = none → reported [[2, 0, 0, 0, 0, 0, 0, 0, 0]])
    ∧ (∀ r, f.byte 1 = 2 → s.log.first = some r →
        let o := r.occurrence
        let offset : Option Int := match o.track with | some d => d.offset | none => none
        let half (x : Int) : List Byte := [BitVec.ofInt 8 (x / 256), BitVec.ofInt 8 x]
        reported [[(2 : Byte), (if o.frame.isSome then 1 else 0) + (if o.track.isSome then 2 else 0)
              + (if offset.isSome then 4 else 0) + (if r.multiple then 8 else 0)]
          ++ (match o.frame with
              | some h => [BitVec.ofNat 8 (h.cls.toNat * 32 + h.src.toNat / 4),
                  BitVec.ofNat 8 (h.src.toNat % 4 * 64 + h.code.toNat), BitVec.ofNat 8 h.len.toNat]
              | none => [0, 0, 0])
          ++ half (match o.track with | some d => d.count | none => 0)
          ++ half (match offset with | some d => d | none => 0)])
    ∧ (f.byte 1 = 3 → reported
        [3 :: [1, 2, 3, 4, 5, 6, 7].map (countByte s), 131 :: [8, 9, 10, 11, 12, 13].map (countByte s)])
    ∧ (f.byte 1 = 4 → reported
        [4 :: [14, 15, 16, 17, 18, 19, 20, 21, 22, 23, 24].map (countByte s),
         132 :: [25, 26, 27, 28, 29, 30].map (countByte s)])
    ∧ (5 ≤ (f.byte 1).toNat → reported [[]])

/-- A LANE RESET of a DISABLED lane is refused OUT_OF_SERVICE, and one with a sill blocked SILL_BLOCKED, with nothing else
changed. Accepted, it sends END ABORTED for each handover in hand, the L-end's first, WITHDRAW for each standing offer and REPLY
OUT_OF_SERVICE for a turnaround, and then its own REPLY. It leaves the lane RUNNING with no turnaround, its tracker TRACKED at count
0, its latches clear where it is not held, and a record for each blocked stop eye: a record that stood there keeps its identity,
an unknown one stands where none did, and one whose eye is clear is gone, with LOST_TOTE unless it was ENTERING. The count field of
0 in the REPLY to the reset is the model's choice (log entry 47). -/
def Obligations.LaneResetRunsInventory : Prop :=
  ∀ (s : State) (f : Frame) (rest : List Frame), s.Quiet → s.bus.urgent.length < 8 → s.TakesHead 0x22 f rest →
    let i := f.lane
    let l := s.lane i
    (l.state = .disabled → exec .laneReset s = .next (s.answered rest [wireReply s i .liftEnd 0x22 9 0 none]))
    ∧ (l.state ≠ .disabled → (l.blocked .sSill = true ∨ l.blocked .lSill = true) →
      exec .laneReset s = .next (s.answered rest [wireReply s i .liftEnd 0x22 13 0 none]))
    ∧ (l.state ≠ .disabled → l.blocked .sSill = false → l.blocked .lSill = false →
      (l.queue.map (·.pos)).Nodup → (∀ r ∈ l.queue, r.pos < l.n) →
      ∃ t, exec .laneReset s = .next t ∧ t.bus.received = rest ∧ (t.lane i).state = .running
        ∧ (t.lane i).turnaround = none ∧ (t.lane i).dir = l.dir
        ∧ (t.lane i).tracker.untracked = false ∧ (t.lane i).tracker.count = 0
        ∧ (l.effHold = false → (t.lane i).sLatch = false ∧ (t.lane i).lLatch = false)
        ∧ (t.lane i).queue.length = ((List.range l.n).filter l.stopBlocked).length
        ∧ (∀ r ∈ l.queue, l.stopBlocked r.pos = true →
            ∃ r' ∈ (t.lane i).queue, r'.id = r.id ∧ r'.kind = r.kind ∧ r'.len = r.len ∧ r'.cls = r.cls)
        ∧ ((∃ r ∈ l.queue, l.stopBlocked r.pos = false ∧ r.state ≠ .entering) → Raised .lostTote s t)
        ∧ Keeps i (inventoryOf l) t
        ∧ (let busy (x : EndState) : Bool := x == .reserved || x == .transfer
           let lift : List Frame := match l.lEnd.hand with
             | some h =>
               if busy l.lEnd.state then
                 [wireEnded s i .liftEnd 2 (if h.kind = .give ∨ h.firstGone = true then 1 else 0) h.first.id (h.second.bind (·.id))]
               else []
             | none => []
           let shuttle : List Frame := match l.sEnd.hand with
             | some (.put id _ _) => if busy l.sEnd.state then [wireEnded s i .shuttleEnd 2 1 id none] else []
             | some (.fetch id _) => if busy l.sEnd.state then [wireEnded s i .shuttleEnd 2 1 id none] else []
             | none => []
           let offers : List Frame :=
             (match l.lEnd.head with
               | some h => wireWithdraw s i .liftEnd 0 h.id
                   :: (match l.lEnd.second with | some o => [wireWithdraw s i .liftEnd 1 o.id] | none => [])
               | none => [])
             ++ (match l.sEnd.offer with | some o => [wireWithdraw s i .shuttleEnd 0 o.id] | none => [])
           let turn : List Frame := if l.turnaround.isSome then [wireReply s i .shuttleEnd 0x14 9 0 none] else []
           let sent := lift ++ shuttle ++ offers ++ turn ++ [wireReply s i .liftEnd 0x22 0 0 none]
           s.bus.urgent.length + sent.length ≤ 8 → s.bus.urgent ++ sent <+: t.bus.urgent))

/-! ### The aisle bus (Chapter 10) -/

/-- A frame taken off the line is the frame that was sent, whatever follows its end mark. Where a stuffed bit begins a run of
its own, and that one follows a run that the last CRC bit ends, is the model's reading (log entry 18). -/
def Obligations.ReceivedFrameIsTheFrameSent : Prop :=
  ∀ (f : Frame) (after : List Bool), f.payload.length ≤ 12 → receiveLine (lineBits f ++ after) = .whole f

/-- From the start mark to the last bit before the end mark no six bits in a row on the line are equal (log entry 18 for the
inserted bit that begins a run of its own). -/
def Obligations.StuffingBreaksEveryRunOfSix : Prop :=
  ∀ (bits : List Bool) (b : Bool), ¬ (List.replicate 6 b).IsInfix (false :: stuffFrom false 1 bits)

/-- An attempt begins with the urgent head, or with the routine head where no urgent frame waits. Sent whole, the frame leaves
its queue and the next has attempt count 0; lost in arbitration, it stays as it is; a mismatch is counted, and the third
takes the frame out of its queue with TX_FAIL. -/
def Obligations.AttemptsSendTheHeads : Prop :=
  ∀ s : State, s.Quiet →
    ((s.node = .listening ∨ s.node = .running) → s.bus.attempt = none →
      exec .txAttemptStart s = .next { s with bus := { s.bus with
        attempt := if s.bus.urgent ≠ [] then some .urgent else if s.bus.routine ≠ [] then some .routine else none } })
    ∧ (s.bus.attempt = some .urgent →
      exec .txSent s = .next { s with bus := { s.bus with urgent := s.bus.urgent.tail, urgentTries := 0, attempt := none } })
    ∧ (s.bus.attempt = some .routine →
      exec .txSent s = .next { s with bus := { s.bus with routine := s.bus.routine.tail, routineTries := 0, attempt := none } })
    ∧ (s.bus.attempt.isSome = true → exec .arbitrationLost s = .next { s with bus := { s.bus with attempt := none } })
    ∧ (s.bus.attempt = some .urgent → s.bus.urgentTries < 2 →
      exec .txMismatch s =
        .next { s with bus := { s.bus with urgentTries := s.bus.urgentTries + 1, attempt := none } })
    ∧ (s.bus.attempt = some .routine → s.bus.routineTries < 2 →
      exec .txMismatch s =
        .next { s with bus := { s.bus with routineTries := s.bus.routineTries + 1, attempt := none } })
    ∧ (s.bus.attempt = some .urgent → s.bus.urgentTries = 2 → s.bus.urgent ≠ [] →
      ∃ t, exec .txMismatch s = .next t ∧ t.bus.urgent = s.bus.urgent.tail ∧ t.bus.urgentTries = 0
        ∧ t.bus.attempt = none ∧ Raised .txFail s t)
    ∧ (s.bus.attempt = some .routine → s.bus.routineTries = 2 → s.bus.routine ≠ [] →
      ∃ t, exec .txMismatch s = .next t ∧ s.bus.routine.tail <+: t.bus.routine ∧ t.bus.routineTries = 0
        ∧ t.bus.urgent = s.bus.urgent ∧ t.bus.attempt = none ∧ Raised .txFail s t)

/-- An expiry of the beacon timer starts it over and produces a BEACON: a frame of class 6 whose 12 bytes show the node and its
lanes as they stand, its first bit set once the node is RUNNING. It replaces the BEACON nearest the tail that waits in the routine queue, in place and with attempt count 0, or
goes to the tail where none waits and there is room; a BEACON being sent does not wait. The second expiry after LISTENING began
enters RUNNING first. -/
def Obligations.BeaconExpiryProducesABeacon : Prop :=
  ∀ s : State, (s.node = .listening ∨ s.node = .running) → s.bus.beaconTimer.isSome = true →
    let sending := if s.bus.attempt = some .routine then 1 else 0
    ∃ t, exec .beaconTimerExpiry s = .next t ∧ t.bus.beaconTimer = some s.settings.beaconPeriod
      ∧ (s.node = .listening → s.listenExpiries = 0 → t.node = .listening ∧ t.listenExpiries = 1)
      ∧ (s.node = .listening → 1 ≤ s.listenExpiries → t.node = .running)
      ∧ (s.node = .running → t.node = .running)
      ∧ (let beacon := wireBeacon s (t.node == .running)
         ((∀ f ∈ s.bus.routine.drop sending, f.code ≠ 0x01) → s.bus.routine.length < 8 →
           s.bus.routine ++ [beacon] <+: t.bus.routine ∧ t.bus.routineTries = s.bus.routineTries)
         ∧ (∀ (ahead : List Frame) (b : Frame) (behind : List Frame), s.bus.routine = ahead ++ b :: behind → sending ≤ ahead.length → b.code = 0x01 →
             (∀ f ∈ behind, f.code ≠ 0x01) →
           ahead ++ beacon :: behind <+: t.bus.routine
             ∧ t.bus.routineTries = if ahead = [] then 0 else s.bus.routineTries))

/-- A frame that keeps to no row of the table of kinds raises RX_MALFORMED. One that keeps to its row refreshes the entry of a tracked
source, and a BEACON of a lift or the shuttle gives its service state; a BEACON goes no further; a maintenance frame of a node other
than 4 to 7 raises ACCESS; a frame with no owner here or for another level is discarded; any other joins the receive queue, or raises
RX_OVERFLOW where 16 wait. A CRC that differs, a broken end mark and six equal bits in a row raise RX_CRC; a length field of 13 to 15
raises RX_MALFORMED as soon as it is read, which is the model's choice (log entry 19). -/
def Obligations.ReceivedFrameIsChecked : Prop :=
  (∀ (s : State) (f : Frame), (s.node = .listening ∨ s.node = .running) → f.payload.length ≤ 12 →
    ∃ t, exec (.frameReceived (lineBits f)) s = .next t
      ∧ (keptRow f = none → Raised .rxMalformed s t ∧ t.bus.received = s.bus.received ∧ t.peers = s.peers)
      ∧ ∀ row, keptRow f = some row →
        (∀ p, s.peerId p = f.src →
            t.peer p =
              { state := .present
                inService := if row.code = 0x01 ∧ (p = .liftA ∨ p = .liftB ∨ p = .shuttle)
                  then (f.byte 0).getLsbD 0 else (s.peer p).inService
                timer := some (3 * s.settings.beaconPeriod) })
        ∧ (∀ p, s.peerId p ≠ f.src → t.peer p = s.peer p)
        ∧ (let maintenance := 0x20 ≤ f.code.toNat ∧ f.code.toNat ≤ 0x25
           let frontEnd := 4 ≤ f.src.toNat ∧ f.src.toNat ≤ 7
           let here := row.owned = true ∧ (row.levelled = true → f.byte 0 = s.wireLevel)
           (¬ here ∨ (maintenance ∧ ¬ frontEnd) → t.bus.received = s.bus.received)
           ∧ (maintenance → ¬ frontEnd → Raised .access s t)
           ∧ (here → ¬ (maintenance ∧ ¬ frontEnd) →
              (s.bus.received.length < 16 → t.bus.received = s.bus.received ++ [f])
              ∧ (16 ≤ s.bus.received.length → t.bus.received = s.bus.received ∧ Raised .rxOverflow s t))))
  ∧ (∀ (s : State) (f : Frame) (line : List Bool), (s.node = .listening ∨ s.node = .running) → f.payload.length ≤ 12 →
    let raises (k : FaultKind) : Prop :=
      ∃ t, exec (.frameReceived line) s = .next t ∧ Raised k s t ∧ t.bus.received = s.bus.received ∧ t.peers = s.peers
    let body := frameBody f
    let whole := body ++ fieldBits (crc16 body)
    ((∃ crc after, crc ≠ crc16 body ∧ line = false :: stuffFrom false 1 (body ++ fieldBits crc) ++ after) → raises .rxCrc)
    ∧ ((∃ after, after.take 7 ≠ [true, true, true, true, true, true, true]
          ∧ line = false :: stuffFrom false 1 whole ++ after) → raises .rxCrc)
    ∧ ((∃ k b after, (k + 6 ≤ 20 ∨ 20 ≤ k) ∧ k + 6 ≤ whole.length
          ∧ line = false :: stuffFrom false 1 (whole.take k) ++ List.replicate 6 b ++ after) → raises .rxCrc)
    ∧ ((∃ (len : BitVec 4) (after : List Bool), 13 ≤ len.toNat
          ∧ line = false :: stuffFrom false 1 (fieldBits (f.cls ++ f.src ++ f.code) ++ fieldBits len) ++ after) →
        raises .rxMalformed))
end

