-- ==== Sys2Proof/Laws/State.lean ====
section
/-! SUPPORT. One lemma per field per update of the state and of a lane: what each named update leaves as it is. -/

namespace Sys2Proof.Machine

open Sys2Proof

/-- The element of a vector after each was changed. -/
@[simp] theorem getElem_eachOf {α β : Type} {n : Nat} (f : Nat → α → β) (v : Vector α n) (j : Nat) (h : j < n) :
    (eachOf f v)[j] = f j v[j] := by simp [eachOf]

/-! ### One lane of the state replaced -/

@[simp] theorem State.lane_setLane_same (s : State) (i : LaneId) (l : Lane) : (s.setLane i l).lane i = l := by
  cases i <;> rfl
@[simp] theorem State.lane_setLane_other (s : State) (i : LaneId) (l : Lane) :
    (s.setLane i l).lane (otherLane i) = s.lane (otherLane i) := by cases i <;> rfl
theorem State.lane_setLane_ne (s : State) {i j : LaneId} (h : j ≠ i) (l : Lane) : (s.setLane i l).lane j = s.lane j := by
  cases i <;> cases j <;> first | rfl | exact absurd rfl h
@[simp] theorem State.setLane_lane (s : State) (i : LaneId) : s.setLane i (s.lane i) = s := by cases i <;> rfl
@[simp] theorem State.setLane_setLane (s : State) (i : LaneId) (l m : Lane) :
    (s.setLane i l).setLane i m = s.setLane i m := by cases i <;> rfl
@[simp] theorem State.lane_modLane_same (s : State) (i : LaneId) (f : Lane → Lane) :
    (s.modLane i f).lane i = f (s.lane i) := by cases i <;> rfl
@[simp] theorem State.lane_modLane_other (s : State) (i : LaneId) (f : Lane → Lane) :
    (s.modLane i f).lane (otherLane i) = s.lane (otherLane i) := by cases i <;> rfl
@[simp] theorem otherLane_otherLane (i : LaneId) : otherLane (otherLane i) = i := by cases i <;> rfl
theorem otherLane_ne (i : LaneId) : otherLane i ≠ i := by cases i <;> decide
theorem lane_eq_or_other (i j : LaneId) : j = i ∨ j = otherLane i := by cases i <;> cases j <;> decide

@[simp] theorem State.setLane_node (s : State) (i : LaneId) (l : Lane) : (s.setLane i l).node = s.node := by cases i <;> rfl
@[simp] theorem State.setLane_resetLow (s : State) (i : LaneId) (l : Lane) : (s.setLane i l).resetLow = s.resetLow := by cases i <;> rfl
@[simp] theorem State.setLane_straps (s : State) (i : LaneId) (l : Lane) : (s.setLane i l).straps = s.straps := by cases i <;> rfl
@[simp] theorem State.setLane_settingsTaken (s : State) (i : LaneId) (l : Lane) : (s.setLane i l).settingsTaken = s.settingsTaken := by cases i <;> rfl
@[simp] theorem State.setLane_settings (s : State) (i : LaneId) (l : Lane) : (s.setLane i l).settings = s.settings := by cases i <;> rfl
@[simp] theorem State.setLane_defaulted (s : State) (i : LaneId) (l : Lane) : (s.setLane i l).defaulted = s.defaulted := by cases i <;> rfl
@[simp] theorem State.setLane_listenExpiries (s : State) (i : LaneId) (l : Lane) : (s.setLane i l).listenExpiries = s.listenExpiries := by cases i <;> rfl
@[simp] theorem State.setLane_timeBase (s : State) (i : LaneId) (l : Lane) : (s.setLane i l).timeBase = s.timeBase := by cases i <;> rfl
@[simp] theorem State.setLane_groups (s : State) (i : LaneId) (l : Lane) : (s.setLane i l).groups = s.groups := by cases i <;> rfl
@[simp] theorem State.setLane_levelHold (s : State) (i : LaneId) (l : Lane) : (s.setLane i l).levelHold = s.levelHold := by cases i <;> rfl
@[simp] theorem State.setLane_holders (s : State) (i : LaneId) (l : Lane) : (s.setLane i l).holders = s.holders := by cases i <;> rfl
@[simp] theorem State.setLane_overflow (s : State) (i : LaneId) (l : Lane) : (s.setLane i l).overflow = s.overflow := by cases i <;> rfl
@[simp] theorem State.setLane_peers (s : State) (i : LaneId) (l : Lane) : (s.setLane i l).peers = s.peers := by cases i <;> rfl
@[simp] theorem State.setLane_log (s : State) (i : LaneId) (l : Lane) : (s.setLane i l).log = s.log := by cases i <;> rfl
@[simp] theorem State.setLane_bus (s : State) (i : LaneId) (l : Lane) : (s.setLane i l).bus = s.bus := by cases i <;> rfl
@[simp] theorem State.setLane_cause (s : State) (i : LaneId) (l : Lane) : (s.setLane i l).cause = s.cause := by cases i <;> rfl
@[simp] theorem State.setLane_choices (s : State) (i : LaneId) (l : Lane) : (s.setLane i l).choices = s.choices := by cases i <;> rfl
@[simp] theorem State.setLane_pending (s : State) (i : LaneId) (l : Lane) : (s.setLane i l).pending = s.pending := by cases i <;> rfl
@[simp] theorem State.setLane_unlogged (s : State) (i : LaneId) (l : Lane) : (s.setLane i l).unlogged = s.unlogged := by cases i <;> rfl
@[simp] theorem State.modLane_node (s : State) (i : LaneId) (g : Lane → Lane) : (s.modLane i g).node = s.node := by cases i <;> rfl
@[simp] theorem State.modLane_resetLow (s : State) (i : LaneId) (g : Lane → Lane) : (s.modLane i g).resetLow = s.resetLow := by cases i <;> rfl
@[simp] theorem State.modLane_straps (s : State) (i : LaneId) (g : Lane → Lane) : (s.modLane i g).straps = s.straps := by cases i <;> rfl
@[simp] theorem State.modLane_settingsTaken (s : State) (i : LaneId) (g : Lane → Lane) : (s.modLane i g).settingsTaken = s.settingsTaken := by cases i <;> rfl
@[simp] theorem State.modLane_settings (s : State) (i : LaneId) (g : Lane → Lane) : (s.modLane i g).settings = s.settings := by cases i <;> rfl
@[simp] theorem State.modLane_defaulted (s : State) (i : LaneId) (g : Lane → Lane) : (s.modLane i g).defaulted = s.defaulted := by cases i <;> rfl
@[simp] theorem State.modLane_listenExpiries (s : State) (i : LaneId) (g : Lane → Lane) : (s.modLane i g).listenExpiries = s.listenExpiries := by cases i <;> rfl
@[simp] theorem State.modLane_timeBase (s : State) (i : LaneId) (g : Lane → Lane) : (s.modLane i g).timeBase = s.timeBase := by cases i <;> rfl
@[simp] theorem State.modLane_groups (s : State) (i : LaneId) (g : Lane → Lane) : (s.modLane i g).groups = s.groups := by cases i <;> rfl
@[simp] theorem State.modLane_levelHold (s : State) (i : LaneId) (g : Lane → Lane) : (s.modLane i g).levelHold = s.levelHold := by cases i <;> rfl
@[simp] theorem State.modLane_holders (s : State) (i : LaneId) (g : Lane → Lane) : (s.modLane i g).holders = s.holders := by cases i <;> rfl
@[simp] theorem State.modLane_overflow (s : State) (i : LaneId) (g : Lane → Lane) : (s.modLane i g).overflow = s.overflow := by cases i <;> rfl
@[simp] theorem State.modLane_peers (s : State) (i : LaneId) (g : Lane → Lane) : (s.modLane i g).peers = s.peers := by cases i <;> rfl
@[simp] theorem State.modLane_log (s : State) (i : LaneId) (g : Lane → Lane) : (s.modLane i g).log = s.log := by cases i <;> rfl
@[simp] theorem State.modLane_bus (s : State) (i : LaneId) (g : Lane → Lane) : (s.modLane i g).bus = s.bus := by cases i <;> rfl
@[simp] theorem State.modLane_cause (s : State) (i : LaneId) (g : Lane → Lane) : (s.modLane i g).cause = s.cause := by cases i <;> rfl
@[simp] theorem State.modLane_choices (s : State) (i : LaneId) (g : Lane → Lane) : (s.modLane i g).choices = s.choices := by cases i <;> rfl
@[simp] theorem State.modLane_pending (s : State) (i : LaneId) (g : Lane → Lane) : (s.modLane i g).pending = s.pending := by cases i <;> rfl
@[simp] theorem State.modLane_unlogged (s : State) (i : LaneId) (g : Lane → Lane) : (s.modLane i g).unlogged = s.unlogged := by cases i <;> rfl
@[simp] theorem State.setLane_conf (s : State) (i : LaneId) (l : Lane) (x : LaneId) : (s.setLane i l).conf x = s.conf x := by cases i <;> rfl
@[simp] theorem State.setLane_peer (s : State) (i : LaneId) (l : Lane) (x : PeerId) : (s.setLane i l).peer x = s.peer x := by cases i <;> rfl
@[simp] theorem State.setLane_entryOf (s : State) (i : LaneId) (l : Lane) (x : GroupNo) : (s.setLane i l).entryOf x = s.entryOf x := by cases i <;> rfl
@[simp] theorem State.setLane_available (s : State) (i : LaneId) (l : Lane) (x : PeerId) : (s.setLane i l).available x = s.available x := by cases i <;> rfl
@[simp] theorem State.setLane_active (s : State) (i : LaneId) (l : Lane) : (s.setLane i l).active = s.active := by cases i <;> rfl
@[simp] theorem State.setLane_ownId (s : State) (i : LaneId) (l : Lane) : (s.setLane i l).ownId = s.ownId := by cases i <;> rfl
@[simp] theorem State.setLane_levelByte (s : State) (i : LaneId) (l : Lane) : (s.setLane i l).levelByte = s.levelByte := by cases i <;> rfl
@[simp] theorem State.setLane_aisleHold (s : State) (i : LaneId) (l : Lane) : (s.setLane i l).aisleHold = s.aisleHold := by cases i <;> rfl

/-! ### Frames appended, records of the log, and the tables -/

@[simp] theorem pushUrgent_node (f : Frame) (s : State) : (pushUrgent f s).node = s.node := rfl
@[simp] theorem pushUrgent_resetLow (f : Frame) (s : State) : (pushUrgent f s).resetLow = s.resetLow := rfl
@[simp] theorem pushUrgent_straps (f : Frame) (s : State) : (pushUrgent f s).straps = s.straps := rfl
@[simp] theorem pushUrgent_settingsTaken (f : Frame) (s : State) : (pushUrgent f s).settingsTaken = s.settingsTaken := rfl
@[simp] theorem pushUrgent_settings (f : Frame) (s : State) : (pushUrgent f s).settings = s.settings := rfl
@[simp] theorem pushUrgent_defaulted (f : Frame) (s : State) : (pushUrgent f s).defaulted = s.defaulted := rfl
@[simp] theorem pushUrgent_listenExpiries (f : Frame) (s : State) : (pushUrgent f s).listenExpiries = s.listenExpiries := rfl
@[simp] theorem pushUrgent_timeBase (f : Frame) (s : State) : (pushUrgent f s).timeBase = s.timeBase := rfl
@[simp] theorem pushUrgent_lane0 (f : Frame) (s : State) : (pushUrgent f s).lane0 = s.lane0 := rfl
@[simp] theorem pushUrgent_lane1 (f : Frame) (s : State) : (pushUrgent f s).lane1 = s.lane1 := rfl
@[simp] theorem pushUrgent_groups (f : Frame) (s : State) : (pushUrgent f s).groups = s.groups := rfl
@[simp] theorem pushUrgent_levelHold (f : Frame) (s : State) : (pushUrgent f s).levelHold = s.levelHold := rfl
@[simp] theorem pushUrgent_holders (f : Frame) (s : State) : (pushUrgent f s).holders = s.holders := rfl
@[simp] theorem pushUrgent_overflow (f : Frame) (s : State) : (pushUrgent f s).overflow = s.overflow := rfl
@[simp] theorem pushUrgent_peers (f : Frame) (s : State) : (pushUrgent f s).peers = s.peers := rfl
@[simp] theorem pushUrgent_log (f : Frame) (s : State) : (pushUrgent f s).log = s.log := rfl
@[simp] theorem pushUrgent_cause (f : Frame) (s : State) : (pushUrgent f s).cause = s.cause := rfl
@[simp] theorem pushUrgent_choices (f : Frame) (s : State) : (pushUrgent f s).choices = s.choices := rfl
@[simp] theorem pushUrgent_pending (f : Frame) (s : State) : (pushUrgent f s).pending = s.pending := rfl
@[simp] theorem pushUrgent_unlogged (f : Frame) (s : State) : (pushUrgent f s).unlogged = s.unlogged := rfl
@[simp] theorem pushUrgent_lane (f : Frame) (s : State) (i : LaneId) : (pushUrgent f s).lane i = s.lane i := by cases i <;> rfl
@[simp] theorem pushRoutine_node (f : Frame) (s : State) : (pushRoutine f s).node = s.node := rfl
@[simp] theorem pushRoutine_resetLow (f : Frame) (s : State) : (pushRoutine f s).resetLow = s.resetLow := rfl
@[simp] theorem pushRoutine_straps (f : Frame) (s : State) : (pushRoutine f s).straps = s.straps := rfl
@[simp] theorem pushRoutine_settingsTaken (f : Frame) (s : State) : (pushRoutine f s).settingsTaken = s.settingsTaken := rfl
@[simp] theorem pushRoutine_settings (f : Frame) (s : State) : (pushRoutine f s).settings = s.settings := rfl
@[simp] theorem pushRoutine_defaulted (f : Frame) (s : State) : (pushRoutine f s).defaulted = s.defaulted := rfl
@[simp] theorem pushRoutine_listenExpiries (f : Frame) (s : State) : (pushRoutine f s).listenExpiries = s.listenExpiries := rfl
@[simp] theorem pushRoutine_timeBase (f : Frame) (s : State) : (pushRoutine f s).timeBase = s.timeBase := rfl
@[simp] theorem pushRoutine_lane0 (f : Frame) (s : State) : (pushRoutine f s).lane0 = s.lane0 := rfl
@[simp] theorem pushRoutine_lane1 (f : Frame) (s : State) : (pushRoutine f s).lane1 = s.lane1 := rfl
@[simp] theorem pushRoutine_groups (f : Frame) (s : State) : (pushRoutine f s).groups = s.groups := rfl
@[simp] theorem pushRoutine_levelHold (f : Frame) (s : State) : (pushRoutine f s).levelHold = s.levelHold := rfl
@[simp] theorem pushRoutine_holders (f : Frame) (s : State) : (pushRoutine f s).holders = s.holders := rfl
@[simp] theorem pushRoutine_overflow (f : Frame) (s : State) : (pushRoutine f s).overflow = s.overflow := rfl
@[simp] theorem pushRoutine_peers (f : Frame) (s : State) : (pushRoutine f s).peers = s.peers := rfl
@[simp] theorem pushRoutine_log (f : Frame) (s : State) : (pushRoutine f s).log = s.log := rfl
@[simp] theorem pushRoutine_cause (f : Frame) (s : State) : (pushRoutine f s).cause = s.cause := rfl
@[simp] theorem pushRoutine_choices (f : Frame) (s : State) : (pushRoutine f s).choices = s.choices := rfl
@[simp] theorem pushRoutine_pending (f : Frame) (s : State) : (pushRoutine f s).pending = s.pending := rfl
@[simp] theorem pushRoutine_unlogged (f : Frame) (s : State) : (pushRoutine f s).unlogged = s.unlogged := rfl
@[simp] theorem pushRoutine_lane (f : Frame) (s : State) (i : LaneId) : (pushRoutine f s).lane i = s.lane i := by cases i <;> rfl
@[simp] theorem recordOccurrence_node (o : Occurrence) (s : State) : (recordOccurrence o s).node = s.node := rfl
@[simp] theorem recordOccurrence_resetLow (o : Occurrence) (s : State) : (recordOccurrence o s).resetLow = s.resetLow := rfl
@[simp] theorem recordOccurrence_straps (o : Occurrence) (s : State) : (recordOccurrence o s).straps = s.straps := rfl
@[simp] theorem recordOccurrence_settingsTaken (o : Occurrence) (s : State) : (recordOccurrence o s).settingsTaken = s.settingsTaken := rfl
@[simp] theorem recordOccurrence_settings (o : Occurrence) (s : State) : (recordOccurrence o s).settings = s.settings := rfl
@[simp] theorem recordOccurrence_defaulted (o : Occurrence) (s : State) : (recordOccurrence o s).defaulted = s.defaulted := rfl
@[simp] theorem recordOccurrence_listenExpiries (o : Occurrence) (s : State) : (recordOccurrence o s).listenExpiries = s.listenExpiries := rfl
@[simp] theorem recordOccurrence_timeBase (o : Occurrence) (s : State) : (recordOccurrence o s).timeBase = s.timeBase := rfl
@[simp] theorem recordOccurrence_lane0 (o : Occurrence) (s : State) : (recordOccurrence o s).lane0 = s.lane0 := rfl
@[simp] theorem recordOccurrence_lane1 (o : Occurrence) (s : State) : (recordOccurrence o s).lane1 = s.lane1 := rfl
@[simp] theorem recordOccurrence_groups (o : Occurrence) (s : State) : (recordOccurrence o s).groups = s.groups := rfl
@[simp] theorem recordOccurrence_holders (o : Occurrence) (s : State) : (recordOccurrence o s).holders = s.holders := rfl
@[simp] theorem recordOccurrence_overflow (o : Occurrence) (s : State) : (recordOccurrence o s).overflow = s.overflow := rfl
@[simp] theorem recordOccurrence_peers (o : Occurrence) (s : State) : (recordOccurrence o s).peers = s.peers := rfl
@[simp] theorem recordOccurrence_bus (o : Occurrence) (s : State) : (recordOccurrence o s).bus = s.bus := rfl
@[simp] theorem recordOccurrence_cause (o : Occurrence) (s : State) : (recordOccurrence o s).cause = s.cause := rfl
@[simp] theorem recordOccurrence_choices (o : Occurrence) (s : State) : (recordOccurrence o s).choices = s.choices := rfl
@[simp] theorem recordOccurrence_pending (o : Occurrence) (s : State) : (recordOccurrence o s).pending = s.pending := rfl
@[simp] theorem recordOccurrence_unlogged (o : Occurrence) (s : State) : (recordOccurrence o s).unlogged = s.unlogged := rfl
@[simp] theorem recordOccurrence_lane (o : Occurrence) (s : State) (i : LaneId) : (recordOccurrence o s).lane i = s.lane i := by cases i <;> rfl
@[simp] theorem raiseOccurrence_node (b : Block) (o : Occurrence) (s : State) : (raiseOccurrence b o s).node = s.node := rfl
@[simp] theorem raiseOccurrence_resetLow (b : Block) (o : Occurrence) (s : State) : (raiseOccurrence b o s).resetLow = s.resetLow := rfl
@[simp] theorem raiseOccurrence_straps (b : Block) (o : Occurrence) (s : State) : (raiseOccurrence b o s).straps = s.straps := rfl
@[simp] theorem raiseOccurrence_settingsTaken (b : Block) (o : Occurrence) (s : State) : (raiseOccurrence b o s).settingsTaken = s.settingsTaken := rfl
@[simp] theorem raiseOccurrence_settings (b : Block) (o : Occurrence) (s : State) : (raiseOccurrence b o s).settings = s.settings := rfl
@[simp] theorem raiseOccurrence_defaulted (b : Block) (o : Occurrence) (s : State) : (raiseOccurrence b o s).defaulted = s.defaulted := rfl
@[simp] theorem raiseOccurrence_listenExpiries (b : Block) (o : Occurrence) (s : State) : (raiseOccurrence b o s).listenExpiries = s.listenExpiries := rfl
@[simp] theorem raiseOccurrence_timeBase (b : Block) (o : Occurrence) (s : State) : (raiseOccurrence b o s).timeBase = s.timeBase := rfl
@[simp] theorem raiseOccurrence_lane0 (b : Block) (o : Occurrence) (s : State) : (raiseOccurrence b o s).lane0 = s.lane0 := rfl
@[simp] theorem raiseOccurrence_lane1 (b : Block) (o : Occurrence) (s : State) : (raiseOccurrence b o s).lane1 = s.lane1 := rfl
@[simp] theorem raiseOccurrence_groups (b : Block) (o : Occurrence) (s : State) : (raiseOccurrence b o s).groups = s.groups := rfl
@[simp] theorem raiseOccurrence_holders (b : Block) (o : Occurrence) (s : State) : (raiseOccurrence b o s).holders = s.holders := rfl
@[simp] theorem raiseOccurrence_overflow (b : Block) (o : Occurrence) (s : State) : (raiseOccurrence b o s).overflow = s.overflow := rfl
@[simp] theorem raiseOccurrence_peers (b : Block) (o : Occurrence) (s : State) : (raiseOccurrence b o s).peers = s.peers := rfl
@[simp] theorem raiseOccurrence_bus (b : Block) (o : Occurrence) (s : State) : (raiseOccurrence b o s).bus = s.bus := rfl
@[simp] theorem raiseOccurrence_cause (b : Block) (o : Occurrence) (s : State) : (raiseOccurrence b o s).cause = s.cause := rfl
@[simp] theorem raiseOccurrence_choices (b : Block) (o : Occurrence) (s : State) : (raiseOccurrence b o s).choices = s.choices := rfl
@[simp] theorem raiseOccurrence_pending (b : Block) (o : Occurrence) (s : State) : (raiseOccurrence b o s).pending = s.pending := rfl
@[simp] theorem raiseOccurrence_lane (b : Block) (o : Occurrence) (s : State) (i : LaneId) : (raiseOccurrence b o s).lane i = s.lane i := by cases i <;> rfl
@[simp] theorem raiseOccurrence_levelHold (b : Block) (o : Occurrence) (s : State) : (raiseOccurrence b o s).levelHold = s.levelHold := rfl
@[simp] theorem raiseOccurrence_log (b : Block) (o : Occurrence) (s : State) : (raiseOccurrence b o s).log = s.log := rfl
@[simp] theorem raiseOccurrence_unlogged (b : Block) (o : Occurrence) (s : State) :
    (raiseOccurrence b o s).unlogged = s.unlogged ++ [{ block := b, occurrence := o }] := rfl
@[simp] theorem removalCheck_node (g : GroupNo) (s : State) : (removalCheck g s).node = s.node := rfl
@[simp] theorem removalCheck_resetLow (g : GroupNo) (s : State) : (removalCheck g s).resetLow = s.resetLow := rfl
@[simp] theorem removalCheck_straps (g : GroupNo) (s : State) : (removalCheck g s).straps = s.straps := rfl
@[simp] theorem removalCheck_settingsTaken (g : GroupNo) (s : State) : (removalCheck g s).settingsTaken = s.settingsTaken := rfl
@[simp] theorem removalCheck_settings (g : GroupNo) (s : State) : (removalCheck g s).settings = s.settings := rfl
@[simp] theorem removalCheck_defaulted (g : GroupNo) (s : State) : (removalCheck g s).defaulted = s.defaulted := rfl
@[simp] theorem removalCheck_listenExpiries (g : GroupNo) (s : State) : (removalCheck g s).listenExpiries = s.listenExpiries := rfl
@[simp] theorem removalCheck_timeBase (g : GroupNo) (s : State) : (removalCheck g s).timeBase = s.timeBase := rfl
@[simp] theorem removalCheck_lane0 (g : GroupNo) (s : State) : (removalCheck g s).lane0 = s.lane0 := rfl
@[simp] theorem removalCheck_lane1 (g : GroupNo) (s : State) : (removalCheck g s).lane1 = s.lane1 := rfl
@[simp] theorem removalCheck_levelHold (g : GroupNo) (s : State) : (removalCheck g s).levelHold = s.levelHold := rfl
@[simp] theorem removalCheck_holders (g : GroupNo) (s : State) : (removalCheck g s).holders = s.holders := rfl
@[simp] theorem removalCheck_overflow (g : GroupNo) (s : State) : (removalCheck g s).overflow = s.overflow := rfl
@[simp] theorem removalCheck_peers (g : GroupNo) (s : State) : (removalCheck g s).peers = s.peers := rfl
@[simp] theorem removalCheck_log (g : GroupNo) (s : State) : (removalCheck g s).log = s.log := rfl
@[simp] theorem removalCheck_bus (g : GroupNo) (s : State) : (removalCheck g s).bus = s.bus := rfl
@[simp] theorem removalCheck_cause (g : GroupNo) (s : State) : (removalCheck g s).cause = s.cause := rfl
@[simp] theorem removalCheck_choices (g : GroupNo) (s : State) : (removalCheck g s).choices = s.choices := rfl
@[simp] theorem removalCheck_pending (g : GroupNo) (s : State) : (removalCheck g s).pending = s.pending := rfl
@[simp] theorem removalCheck_unlogged (g : GroupNo) (s : State) : (removalCheck g s).unlogged = s.unlogged := rfl
@[simp] theorem removalCheck_lane (g : GroupNo) (s : State) (i : LaneId) : (removalCheck g s).lane i = s.lane i := by cases i <;> rfl
@[simp] theorem State.putEntry_node (s : State) (e : GroupEntry) : (s.putEntry e).node = s.node := rfl
@[simp] theorem State.putEntry_resetLow (s : State) (e : GroupEntry) : (s.putEntry e).resetLow = s.resetLow := rfl
@[simp] theorem State.putEntry_straps (s : State) (e : GroupEntry) : (s.putEntry e).straps = s.straps := rfl
@[simp] theorem State.putEntry_settingsTaken (s : State) (e : GroupEntry) : (s.putEntry e).settingsTaken = s.settingsTaken := rfl
@[simp] theorem State.putEntry_settings (s : State) (e : GroupEntry) : (s.putEntry e).settings = s.settings := rfl
@[simp] theorem State.putEntry_defaulted (s : State) (e : GroupEntry) : (s.putEntry e).defaulted = s.defaulted := rfl
@[simp] theorem State.putEntry_listenExpiries (s : State) (e : GroupEntry) : (s.putEntry e).listenExpiries = s.listenExpiries := rfl
@[simp] theorem State.putEntry_timeBase (s : State) (e : GroupEntry) : (s.putEntry e).timeBase = s.timeBase := rfl
@[simp] theorem State.putEntry_lane0 (s : State) (e : GroupEntry) : (s.putEntry e).lane0 = s.lane0 := rfl
@[simp] theorem State.putEntry_lane1 (s : State) (e : GroupEntry) : (s.putEntry e).lane1 = s.lane1 := rfl
@[simp] theorem State.putEntry_levelHold (s : State) (e : GroupEntry) : (s.putEntry e).levelHold = s.levelHold := rfl
@[simp] theorem State.putEntry_holders (s : State) (e : GroupEntry) : (s.putEntry e).holders = s.holders := rfl
@[simp] theorem State.putEntry_overflow (s : State) (e : GroupEntry) : (s.putEntry e).overflow = s.overflow := rfl
@[simp] theorem State.putEntry_peers (s : State) (e : GroupEntry) : (s.putEntry e).peers = s.peers := rfl
@[simp] theorem State.putEntry_log (s : State) (e : GroupEntry) : (s.putEntry e).log = s.log := rfl
@[simp] theorem State.putEntry_bus (s : State) (e : GroupEntry) : (s.putEntry e).bus = s.bus := rfl
@[simp] theorem State.putEntry_cause (s : State) (e : GroupEntry) : (s.putEntry e).cause = s.cause := rfl
@[simp] theorem State.putEntry_choices (s : State) (e : GroupEntry) : (s.putEntry e).choices = s.choices := rfl
@[simp] theorem State.putEntry_pending (s : State) (e : GroupEntry) : (s.putEntry e).pending = s.pending := rfl
@[simp] theorem State.putEntry_unlogged (s : State) (e : GroupEntry) : (s.putEntry e).unlogged = s.unlogged := rfl
@[simp] theorem State.putEntry_lane (s : State) (e : GroupEntry) (i : LaneId) : (s.putEntry e).lane i = s.lane i := by cases i <;> rfl
@[simp] theorem State.addEntry_node (s : State) (e : GroupEntry) : (s.addEntry e).node = s.node := rfl
@[simp] theorem State.addEntry_resetLow (s : State) (e : GroupEntry) : (s.addEntry e).resetLow = s.resetLow := rfl
@[simp] theorem State.addEntry_straps (s : State) (e : GroupEntry) : (s.addEntry e).straps = s.straps := rfl
@[simp] theorem State.addEntry_settingsTaken (s : State) (e : GroupEntry) : (s.addEntry e).settingsTaken = s.settingsTaken := rfl
@[simp] theorem State.addEntry_settings (s : State) (e : GroupEntry) : (s.addEntry e).settings = s.settings := rfl
@[simp] theorem State.addEntry_defaulted (s : State) (e : GroupEntry) : (s.addEntry e).defaulted = s.defaulted := rfl
@[simp] theorem State.addEntry_listenExpiries (s : State) (e : GroupEntry) : (s.addEntry e).listenExpiries = s.listenExpiries := rfl
@[simp] theorem State.addEntry_timeBase (s : State) (e : GroupEntry) : (s.addEntry e).timeBase = s.timeBase := rfl
@[simp] theorem State.addEntry_lane0 (s : State) (e : GroupEntry) : (s.addEntry e).lane0 = s.lane0 := rfl
@[simp] theorem State.addEntry_lane1 (s : State) (e : GroupEntry) : (s.addEntry e).lane1 = s.lane1 := rfl
@[simp] theorem State.addEntry_levelHold (s : State) (e : GroupEntry) : (s.addEntry e).levelHold = s.levelHold := rfl
@[simp] theorem State.addEntry_holders (s : State) (e : GroupEntry) : (s.addEntry e).holders = s.holders := rfl
@[simp] theorem State.addEntry_overflow (s : State) (e : GroupEntry) : (s.addEntry e).overflow = s.overflow := rfl
@[simp] theorem State.addEntry_peers (s : State) (e : GroupEntry) : (s.addEntry e).peers = s.peers := rfl
@[simp] theorem State.addEntry_log (s : State) (e : GroupEntry) : (s.addEntry e).log = s.log := rfl
@[simp] theorem State.addEntry_bus (s : State) (e : GroupEntry) : (s.addEntry e).bus = s.bus := rfl
@[simp] theorem State.addEntry_cause (s : State) (e : GroupEntry) : (s.addEntry e).cause = s.cause := rfl
@[simp] theorem State.addEntry_choices (s : State) (e : GroupEntry) : (s.addEntry e).choices = s.choices := rfl
@[simp] theorem State.addEntry_pending (s : State) (e : GroupEntry) : (s.addEntry e).pending = s.pending := rfl
@[simp] theorem State.addEntry_unlogged (s : State) (e : GroupEntry) : (s.addEntry e).unlogged = s.unlogged := rfl
@[simp] theorem State.addEntry_lane (s : State) (e : GroupEntry) (i : LaneId) : (s.addEntry e).lane i = s.lane i := by cases i <;> rfl
@[simp] theorem State.setPeer_node (s : State) (p : PeerId) (x : Peer) : (s.setPeer p x).node = s.node := rfl
@[simp] theorem State.setPeer_resetLow (s : State) (p : PeerId) (x : Peer) : (s.setPeer p x).resetLow = s.resetLow := rfl
@[simp] theorem State.setPeer_straps (s : State) (p : PeerId) (x : Peer) : (s.setPeer p x).straps = s.straps := rfl
@[simp] theorem State.setPeer_settingsTaken (s : State) (p : PeerId) (x : Peer) : (s.setPeer p x).settingsTaken = s.settingsTaken := rfl
@[simp] theorem State.setPeer_settings (s : State) (p : PeerId) (x : Peer) : (s.setPeer p x).settings = s.settings := rfl
@[simp] theorem State.setPeer_defaulted (s : State) (p : PeerId) (x : Peer) : (s.setPeer p x).defaulted = s.defaulted := rfl
@[simp] theorem State.setPeer_listenExpiries (s : State) (p : PeerId) (x : Peer) : (s.setPeer p x).listenExpiries = s.listenExpiries := rfl
@[simp] theorem State.setPeer_timeBase (s : State) (p : PeerId) (x : Peer) : (s.setPeer p x).timeBase = s.timeBase := rfl
@[simp] theorem State.setPeer_lane0 (s : State) (p : PeerId) (x : Peer) : (s.setPeer p x).lane0 = s.lane0 := rfl
@[simp] theorem State.setPeer_lane1 (s : State) (p : PeerId) (x : Peer) : (s.setPeer p x).lane1 = s.lane1 := rfl
@[simp] theorem State.setPeer_groups (s : State) (p : PeerId) (x : Peer) : (s.setPeer p x).groups = s.groups := rfl
@[simp] theorem State.setPeer_levelHold (s : State) (p : PeerId) (x : Peer) : (s.setPeer p x).levelHold = s.levelHold := rfl
@[simp] theorem State.setPeer_holders (s : State) (p : PeerId) (x : Peer) : (s.setPeer p x).holders = s.holders := rfl
@[simp] theorem State.setPeer_overflow (s : State) (p : PeerId) (x : Peer) : (s.setPeer p x).overflow = s.overflow := rfl
@[simp] theorem State.setPeer_log (s : State) (p : PeerId) (x : Peer) : (s.setPeer p x).log = s.log := rfl
@[simp] theorem State.setPeer_bus (s : State) (p : PeerId) (x : Peer) : (s.setPeer p x).bus = s.bus := rfl
@[simp] theorem State.setPeer_cause (s : State) (p : PeerId) (x : Peer) : (s.setPeer p x).cause = s.cause := rfl
@[simp] theorem State.setPeer_choices (s : State) (p : PeerId) (x : Peer) : (s.setPeer p x).choices = s.choices := rfl
@[simp] theorem State.setPeer_pending (s : State) (p : PeerId) (x : Peer) : (s.setPeer p x).pending = s.pending := rfl
@[simp] theorem State.setPeer_unlogged (s : State) (p : PeerId) (x : Peer) : (s.setPeer p x).unlogged = s.unlogged := rfl
@[simp] theorem State.setPeer_lane (s : State) (p : PeerId) (x : Peer) (i : LaneId) : (s.setPeer p x).lane i = s.lane i := by cases i <;> rfl

@[simp] theorem State.peer_setPeer_same (s : State) (p : PeerId) (x : Peer) : (s.setPeer p x).peer p = x := by
  simp [State.peer, State.setPeer]
theorem peerIndex_injective {p q : PeerId} (h : peerIndex p = peerIndex q) : p = q := by
  cases p <;> cases q <;> first | rfl | exact absurd h (by decide)
theorem State.peer_setPeer_ne (s : State) {p q : PeerId} (h : q ≠ p) (x : Peer) : (s.setPeer p x).peer q = s.peer q := by
  have hne : (peerIndex p).val ≠ (peerIndex q).val := fun hv => h (peerIndex_injective (Fin.ext hv)).symm
  simp [State.peer, State.setPeer, hne]
@[simp] theorem pushUrgent_urgent (f : Frame) (s : State) : (pushUrgent f s).bus.urgent = s.bus.urgent ++ [f] := rfl
@[simp] theorem pushUrgent_routine (f : Frame) (s : State) : (pushUrgent f s).bus.routine = s.bus.routine := rfl
@[simp] theorem pushUrgent_received (f : Frame) (s : State) : (pushUrgent f s).bus.received = s.bus.received := rfl
@[simp] theorem pushRoutine_urgent (f : Frame) (s : State) : (pushRoutine f s).bus.urgent = s.bus.urgent := rfl
@[simp] theorem pushRoutine_routine (f : Frame) (s : State) : (pushRoutine f s).bus.routine = s.bus.routine ++ [f] := rfl
@[simp] theorem pushRoutine_received (f : Frame) (s : State) : (pushRoutine f s).bus.received = s.bus.received := rfl

/-! ### A lane's own updates -/

@[simp] theorem Lane.setZone_state (l : Lane) (k : Nat) (d : Drive) : (l.setZone k d).state = l.state := rfl
@[simp] theorem Lane.setZone_kind (l : Lane) (k : Nat) (d : Drive) : (l.setZone k d).kind = l.kind := rfl
@[simp] theorem Lane.setZone_n (l : Lane) (k : Nat) (d : Drive) : (l.setZone k d).n = l.n := rfl
@[simp] theorem Lane.setZone_dir (l : Lane) (k : Nat) (d : Drive) : (l.setZone k d).dir = l.dir := rfl
@[simp] theorem Lane.setZone_queue (l : Lane) (k : Nat) (d : Drive) : (l.setZone k d).queue = l.queue := rfl
@[simp] theorem Lane.setZone_move (l : Lane) (k : Nat) (d : Drive) : (l.setZone k d).move = l.move := rfl
@[simp] theorem Lane.setZone_moveTimer (l : Lane) (k : Nat) (d : Drive) : (l.setZone k d).moveTimer = l.moveTimer := rfl
@[simp] theorem Lane.setZone_turnaround (l : Lane) (k : Nat) (d : Drive) : (l.setZone k d).turnaround = l.turnaround := rfl
@[simp] theorem Lane.setZone_sEnd (l : Lane) (k : Nat) (d : Drive) : (l.setZone k d).sEnd = l.sEnd := rfl
@[simp] theorem Lane.setZone_lEnd (l : Lane) (k : Nat) (d : Drive) : (l.setZone k d).lEnd = l.lEnd := rfl
@[simp] theorem Lane.setZone_tracker (l : Lane) (k : Nat) (d : Drive) : (l.setZone k d).tracker = l.tracker := rfl
@[simp] theorem Lane.setZone_encA (l : Lane) (k : Nat) (d : Drive) : (l.setZone k d).encA = l.encA := rfl
@[simp] theorem Lane.setZone_encB (l : Lane) (k : Nat) (d : Drive) : (l.setZone k d).encB = l.encB := rfl
@[simp] theorem Lane.setZone_sensing (l : Lane) (k : Nat) (d : Drive) : (l.setZone k d).sensing = l.sensing := rfl
@[simp] theorem Lane.setZone_laneHold (l : Lane) (k : Nat) (d : Drive) : (l.setZone k d).laneHold = l.laneHold := rfl
@[simp] theorem Lane.setZone_effHold (l : Lane) (k : Nat) (d : Drive) : (l.setZone k d).effHold = l.effHold := rfl
@[simp] theorem Lane.setZone_sLatch (l : Lane) (k : Nat) (d : Drive) : (l.setZone k d).sLatch = l.sLatch := rfl
@[simp] theorem Lane.setZone_lLatch (l : Lane) (k : Nat) (d : Drive) : (l.setZone k d).lLatch = l.lLatch := rfl
@[simp] theorem Lane.stopZones_state (l : Lane) : (l.stopZones).state = l.state := rfl
@[simp] theorem Lane.stopZones_kind (l : Lane) : (l.stopZones).kind = l.kind := rfl
@[simp] theorem Lane.stopZones_n (l : Lane) : (l.stopZones).n = l.n := rfl
@[simp] theorem Lane.stopZones_dir (l : Lane) : (l.stopZones).dir = l.dir := rfl
@[simp] theorem Lane.stopZones_queue (l : Lane) : (l.stopZones).queue = l.queue := rfl
@[simp] theorem Lane.stopZones_move (l : Lane) : (l.stopZones).move = l.move := rfl
@[simp] theorem Lane.stopZones_moveTimer (l : Lane) : (l.stopZones).moveTimer = l.moveTimer := rfl
@[simp] theorem Lane.stopZones_turnaround (l : Lane) : (l.stopZones).turnaround = l.turnaround := rfl
@[simp] theorem Lane.stopZones_sEnd (l : Lane) : (l.stopZones).sEnd = l.sEnd := rfl
@[simp] theorem Lane.stopZones_lEnd (l : Lane) : (l.stopZones).lEnd = l.lEnd := rfl
@[simp] theorem Lane.stopZones_tracker (l : Lane) : (l.stopZones).tracker = l.tracker := rfl
@[simp] theorem Lane.stopZones_encA (l : Lane) : (l.stopZones).encA = l.encA := rfl
@[simp] theorem Lane.stopZones_encB (l : Lane) : (l.stopZones).encB = l.encB := rfl
@[simp] theorem Lane.stopZones_sensing (l : Lane) : (l.stopZones).sensing = l.sensing := rfl
@[simp] theorem Lane.stopZones_laneHold (l : Lane) : (l.stopZones).laneHold = l.laneHold := rfl
@[simp] theorem Lane.stopZones_effHold (l : Lane) : (l.stopZones).effHold = l.effHold := rfl
@[simp] theorem Lane.stopZones_sLatch (l : Lane) : (l.stopZones).sLatch = l.sLatch := rfl
@[simp] theorem Lane.stopZones_lLatch (l : Lane) : (l.stopZones).lLatch = l.lLatch := rfl
@[simp] theorem Lane.setInput_state (l : Lane) (e : InputId) (x : Input) : (l.setInput e x).state = l.state := rfl
@[simp] theorem Lane.setInput_kind (l : Lane) (e : InputId) (x : Input) : (l.setInput e x).kind = l.kind := rfl
@[simp] theorem Lane.setInput_n (l : Lane) (e : InputId) (x : Input) : (l.setInput e x).n = l.n := rfl
@[simp] theorem Lane.setInput_dir (l : Lane) (e : InputId) (x : Input) : (l.setInput e x).dir = l.dir := rfl
@[simp] theorem Lane.setInput_queue (l : Lane) (e : InputId) (x : Input) : (l.setInput e x).queue = l.queue := rfl
@[simp] theorem Lane.setInput_move (l : Lane) (e : InputId) (x : Input) : (l.setInput e x).move = l.move := rfl
@[simp] theorem Lane.setInput_moveTimer (l : Lane) (e : InputId) (x : Input) : (l.setInput e x).moveTimer = l.moveTimer := rfl
@[simp] theorem Lane.setInput_zones (l : Lane) (e : InputId) (x : Input) : (l.setInput e x).zones = l.zones := rfl
@[simp] theorem Lane.setInput_turnaround (l : Lane) (e : InputId) (x : Input) : (l.setInput e x).turnaround = l.turnaround := rfl
@[simp] theorem Lane.setInput_sEnd (l : Lane) (e : InputId) (x : Input) : (l.setInput e x).sEnd = l.sEnd := rfl
@[simp] theorem Lane.setInput_lEnd (l : Lane) (e : InputId) (x : Input) : (l.setInput e x).lEnd = l.lEnd := rfl
@[simp] theorem Lane.setInput_tracker (l : Lane) (e : InputId) (x : Input) : (l.setInput e x).tracker = l.tracker := rfl
@[simp] theorem Lane.setInput_encA (l : Lane) (e : InputId) (x : Input) : (l.setInput e x).encA = l.encA := rfl
@[simp] theorem Lane.setInput_encB (l : Lane) (e : InputId) (x : Input) : (l.setInput e x).encB = l.encB := rfl
@[simp] theorem Lane.setInput_laneHold (l : Lane) (e : InputId) (x : Input) : (l.setInput e x).laneHold = l.laneHold := rfl
@[simp] theorem Lane.setInput_effHold (l : Lane) (e : InputId) (x : Input) : (l.setInput e x).effHold = l.effHold := rfl
@[simp] theorem Lane.setInput_sLatch (l : Lane) (e : InputId) (x : Input) : (l.setInput e x).sLatch = l.sLatch := rfl
@[simp] theorem Lane.setInput_lLatch (l : Lane) (e : InputId) (x : Input) : (l.setInput e x).lLatch = l.lLatch := rfl
@[simp] theorem Lane.mapQueue_state (l : Lane) (f : Tote → Tote) : (l.mapQueue f).state = l.state := rfl
@[simp] theorem Lane.mapQueue_kind (l : Lane) (f : Tote → Tote) : (l.mapQueue f).kind = l.kind := rfl
@[simp] theorem Lane.mapQueue_n (l : Lane) (f : Tote → Tote) : (l.mapQueue f).n = l.n := rfl
@[simp] theorem Lane.mapQueue_dir (l : Lane) (f : Tote → Tote) : (l.mapQueue f).dir = l.dir := rfl
@[simp] theorem Lane.mapQueue_move (l : Lane) (f : Tote → Tote) : (l.mapQueue f).move = l.move := rfl
@[simp] theorem Lane.mapQueue_moveTimer (l : Lane) (f : Tote → Tote) : (l.mapQueue f).moveTimer = l.moveTimer := rfl
@[simp] theorem Lane.mapQueue_zones (l : Lane) (f : Tote → Tote) : (l.mapQueue f).zones = l.zones := rfl
@[simp] theorem Lane.mapQueue_turnaround (l : Lane) (f : Tote → Tote) : (l.mapQueue f).turnaround = l.turnaround := rfl
@[simp] theorem Lane.mapQueue_sEnd (l : Lane) (f : Tote → Tote) : (l.mapQueue f).sEnd = l.sEnd := rfl
@[simp] theorem Lane.mapQueue_lEnd (l : Lane) (f : Tote → Tote) : (l.mapQueue f).lEnd = l.lEnd := rfl
@[simp] theorem Lane.mapQueue_tracker (l : Lane) (f : Tote → Tote) : (l.mapQueue f).tracker = l.tracker := rfl
@[simp] theorem Lane.mapQueue_encA (l : Lane) (f : Tote → Tote) : (l.mapQueue f).encA = l.encA := rfl
@[simp] theorem Lane.mapQueue_encB (l : Lane) (f : Tote → Tote) : (l.mapQueue f).encB = l.encB := rfl
@[simp] theorem Lane.mapQueue_sensing (l : Lane) (f : Tote → Tote) : (l.mapQueue f).sensing = l.sensing := rfl
@[simp] theorem Lane.mapQueue_laneHold (l : Lane) (f : Tote → Tote) : (l.mapQueue f).laneHold = l.laneHold := rfl
@[simp] theorem Lane.mapQueue_effHold (l : Lane) (f : Tote → Tote) : (l.mapQueue f).effHold = l.effHold := rfl
@[simp] theorem Lane.mapQueue_sLatch (l : Lane) (f : Tote → Tote) : (l.mapQueue f).sLatch = l.sLatch := rfl
@[simp] theorem Lane.mapQueue_lLatch (l : Lane) (f : Tote → Tote) : (l.mapQueue f).lLatch = l.lLatch := rfl
@[simp] theorem Lane.mark_state (l : Lane) (k : Nat) (t : ToteState) : (l.mark k t).state = l.state := rfl
@[simp] theorem Lane.mark_kind (l : Lane) (k : Nat) (t : ToteState) : (l.mark k t).kind = l.kind := rfl
@[simp] theorem Lane.mark_n (l : Lane) (k : Nat) (t : ToteState) : (l.mark k t).n = l.n := rfl
@[simp] theorem Lane.mark_dir (l : Lane) (k : Nat) (t : ToteState) : (l.mark k t).dir = l.dir := rfl
@[simp] theorem Lane.mark_move (l : Lane) (k : Nat) (t : ToteState) : (l.mark k t).move = l.move := rfl
@[simp] theorem Lane.mark_moveTimer (l : Lane) (k : Nat) (t : ToteState) : (l.mark k t).moveTimer = l.moveTimer := rfl
@[simp] theorem Lane.mark_zones (l : Lane) (k : Nat) (t : ToteState) : (l.mark k t).zones = l.zones := rfl
@[simp] theorem Lane.mark_turnaround (l : Lane) (k : Nat) (t : ToteState) : (l.mark k t).turnaround = l.turnaround := rfl
@[simp] theorem Lane.mark_sEnd (l : Lane) (k : Nat) (t : ToteState) : (l.mark k t).sEnd = l.sEnd := rfl
@[simp] theorem Lane.mark_lEnd (l : Lane) (k : Nat) (t : ToteState) : (l.mark k t).lEnd = l.lEnd := rfl
@[simp] theorem Lane.mark_tracker (l : Lane) (k : Nat) (t : ToteState) : (l.mark k t).tracker = l.tracker := rfl
@[simp] theorem Lane.mark_encA (l : Lane) (k : Nat) (t : ToteState) : (l.mark k t).encA = l.encA := rfl
@[simp] theorem Lane.mark_encB (l : Lane) (k : Nat) (t : ToteState) : (l.mark k t).encB = l.encB := rfl
@[simp] theorem Lane.mark_sensing (l : Lane) (k : Nat) (t : ToteState) : (l.mark k t).sensing = l.sensing := rfl
@[simp] theorem Lane.mark_laneHold (l : Lane) (k : Nat) (t : ToteState) : (l.mark k t).laneHold = l.laneHold := rfl
@[simp] theorem Lane.mark_effHold (l : Lane) (k : Nat) (t : ToteState) : (l.mark k t).effHold = l.effHold := rfl
@[simp] theorem Lane.mark_sLatch (l : Lane) (k : Nat) (t : ToteState) : (l.mark k t).sLatch = l.sLatch := rfl
@[simp] theorem Lane.mark_lLatch (l : Lane) (k : Nat) (t : ToteState) : (l.mark k t).lLatch = l.lLatch := rfl
@[simp] theorem Lane.dropHead_state (l : Lane) : (l.dropHead).state = l.state := rfl
@[simp] theorem Lane.dropHead_kind (l : Lane) : (l.dropHead).kind = l.kind := rfl
@[simp] theorem Lane.dropHead_n (l : Lane) : (l.dropHead).n = l.n := rfl
@[simp] theorem Lane.dropHead_dir (l : Lane) : (l.dropHead).dir = l.dir := rfl
@[simp] theorem Lane.dropHead_move (l : Lane) : (l.dropHead).move = l.move := rfl
@[simp] theorem Lane.dropHead_moveTimer (l : Lane) : (l.dropHead).moveTimer = l.moveTimer := rfl
@[simp] theorem Lane.dropHead_zones (l : Lane) : (l.dropHead).zones = l.zones := rfl
@[simp] theorem Lane.dropHead_turnaround (l : Lane) : (l.dropHead).turnaround = l.turnaround := rfl
@[simp] theorem Lane.dropHead_sEnd (l : Lane) : (l.dropHead).sEnd = l.sEnd := rfl
@[simp] theorem Lane.dropHead_lEnd (l : Lane) : (l.dropHead).lEnd = l.lEnd := rfl
@[simp] theorem Lane.dropHead_tracker (l : Lane) : (l.dropHead).tracker = l.tracker := rfl
@[simp] theorem Lane.dropHead_encA (l : Lane) : (l.dropHead).encA = l.encA := rfl
@[simp] theorem Lane.dropHead_encB (l : Lane) : (l.dropHead).encB = l.encB := rfl
@[simp] theorem Lane.dropHead_sensing (l : Lane) : (l.dropHead).sensing = l.sensing := rfl
@[simp] theorem Lane.dropHead_laneHold (l : Lane) : (l.dropHead).laneHold = l.laneHold := rfl
@[simp] theorem Lane.dropHead_effHold (l : Lane) : (l.dropHead).effHold = l.effHold := rfl
@[simp] theorem Lane.dropHead_sLatch (l : Lane) : (l.dropHead).sLatch = l.sLatch := rfl
@[simp] theorem Lane.dropHead_lLatch (l : Lane) : (l.dropHead).lLatch = l.lLatch := rfl
@[simp] theorem Lane.sIdle_state (l : Lane) : (l.sIdle).state = l.state := rfl
@[simp] theorem Lane.sIdle_kind (l : Lane) : (l.sIdle).kind = l.kind := rfl
@[simp] theorem Lane.sIdle_n (l : Lane) : (l.sIdle).n = l.n := rfl
@[simp] theorem Lane.sIdle_dir (l : Lane) : (l.sIdle).dir = l.dir := rfl
@[simp] theorem Lane.sIdle_queue (l : Lane) : (l.sIdle).queue = l.queue := rfl
@[simp] theorem Lane.sIdle_move (l : Lane) : (l.sIdle).move = l.move := rfl
@[simp] theorem Lane.sIdle_moveTimer (l : Lane) : (l.sIdle).moveTimer = l.moveTimer := rfl
@[simp] theorem Lane.sIdle_zones (l : Lane) : (l.sIdle).zones = l.zones := rfl
@[simp] theorem Lane.sIdle_turnaround (l : Lane) : (l.sIdle).turnaround = l.turnaround := rfl
@[simp] theorem Lane.sIdle_lEnd (l : Lane) : (l.sIdle).lEnd = l.lEnd := rfl
@[simp] theorem Lane.sIdle_tracker (l : Lane) : (l.sIdle).tracker = l.tracker := rfl
@[simp] theorem Lane.sIdle_encA (l : Lane) : (l.sIdle).encA = l.encA := rfl
@[simp] theorem Lane.sIdle_encB (l : Lane) : (l.sIdle).encB = l.encB := rfl
@[simp] theorem Lane.sIdle_sensing (l : Lane) : (l.sIdle).sensing = l.sensing := rfl
@[simp] theorem Lane.sIdle_laneHold (l : Lane) : (l.sIdle).laneHold = l.laneHold := rfl
@[simp] theorem Lane.sIdle_effHold (l : Lane) : (l.sIdle).effHold = l.effHold := rfl
@[simp] theorem Lane.sIdle_sLatch (l : Lane) : (l.sIdle).sLatch = l.sLatch := rfl
@[simp] theorem Lane.sIdle_lLatch (l : Lane) : (l.sIdle).lLatch = l.lLatch := rfl
@[simp] theorem Lane.lIdle_state (l : Lane) : (l.lIdle).state = l.state := rfl
@[simp] theorem Lane.lIdle_kind (l : Lane) : (l.lIdle).kind = l.kind := rfl
@[simp] theorem Lane.lIdle_n (l : Lane) : (l.lIdle).n = l.n := rfl
@[simp] theorem Lane.lIdle_dir (l : Lane) : (l.lIdle).dir = l.dir := rfl
@[simp] theorem Lane.lIdle_queue (l : Lane) : (l.lIdle).queue = l.queue := rfl
@[simp] theorem Lane.lIdle_move (l : Lane) : (l.lIdle).move = l.move := rfl
@[simp] theorem Lane.lIdle_moveTimer (l : Lane) : (l.lIdle).moveTimer = l.moveTimer := rfl
@[simp] theorem Lane.lIdle_zones (l : Lane) : (l.lIdle).zones = l.zones := rfl
@[simp] theorem Lane.lIdle_turnaround (l : Lane) : (l.lIdle).turnaround = l.turnaround := rfl
@[simp] theorem Lane.lIdle_sEnd (l : Lane) : (l.lIdle).sEnd = l.sEnd := rfl
@[simp] theorem Lane.lIdle_tracker (l : Lane) : (l.lIdle).tracker = l.tracker := rfl
@[simp] theorem Lane.lIdle_encA (l : Lane) : (l.lIdle).encA = l.encA := rfl
@[simp] theorem Lane.lIdle_encB (l : Lane) : (l.lIdle).encB = l.encB := rfl
@[simp] theorem Lane.lIdle_sensing (l : Lane) : (l.lIdle).sensing = l.sensing := rfl
@[simp] theorem Lane.lIdle_laneHold (l : Lane) : (l.lIdle).laneHold = l.laneHold := rfl
@[simp] theorem Lane.lIdle_effHold (l : Lane) : (l.lIdle).effHold = l.effHold := rfl
@[simp] theorem Lane.lIdle_sLatch (l : Lane) : (l.lIdle).sLatch = l.sLatch := rfl
@[simp] theorem Lane.lIdle_lLatch (l : Lane) : (l.lIdle).lLatch = l.lLatch := rfl
@[simp] theorem Lane.stopTracker_state (l : Lane) : (l.stopTracker).state = l.state := rfl
@[simp] theorem Lane.stopTracker_kind (l : Lane) : (l.stopTracker).kind = l.kind := rfl
@[simp] theorem Lane.stopTracker_n (l : Lane) : (l.stopTracker).n = l.n := rfl
@[simp] theorem Lane.stopTracker_dir (l : Lane) : (l.stopTracker).dir = l.dir := rfl
@[simp] theorem Lane.stopTracker_queue (l : Lane) : (l.stopTracker).queue = l.queue := rfl
@[simp] theorem Lane.stopTracker_move (l : Lane) : (l.stopTracker).move = l.move := rfl
@[simp] theorem Lane.stopTracker_moveTimer (l : Lane) : (l.stopTracker).moveTimer = l.moveTimer := rfl
@[simp] theorem Lane.stopTracker_zones (l : Lane) : (l.stopTracker).zones = l.zones := rfl
@[simp] theorem Lane.stopTracker_turnaround (l : Lane) : (l.stopTracker).turnaround = l.turnaround := rfl
@[simp] theorem Lane.stopTracker_sEnd (l : Lane) : (l.stopTracker).sEnd = l.sEnd := rfl
@[simp] theorem Lane.stopTracker_lEnd (l : Lane) : (l.stopTracker).lEnd = l.lEnd := rfl
@[simp] theorem Lane.stopTracker_encA (l : Lane) : (l.stopTracker).encA = l.encA := rfl
@[simp] theorem Lane.stopTracker_encB (l : Lane) : (l.stopTracker).encB = l.encB := rfl
@[simp] theorem Lane.stopTracker_sensing (l : Lane) : (l.stopTracker).sensing = l.sensing := rfl
@[simp] theorem Lane.stopTracker_laneHold (l : Lane) : (l.stopTracker).laneHold = l.laneHold := rfl
@[simp] theorem Lane.stopTracker_effHold (l : Lane) : (l.stopTracker).effHold = l.effHold := rfl
@[simp] theorem Lane.stopTracker_sLatch (l : Lane) : (l.stopTracker).sLatch = l.sLatch := rfl
@[simp] theorem Lane.stopTracker_lLatch (l : Lane) : (l.stopTracker).lLatch = l.lLatch := rfl
@[simp] theorem Lane.resetLatches_state (l : Lane) : (l.resetLatches).state = l.state := rfl
@[simp] theorem Lane.resetLatches_kind (l : Lane) : (l.resetLatches).kind = l.kind := rfl
@[simp] theorem Lane.resetLatches_n (l : Lane) : (l.resetLatches).n = l.n := rfl
@[simp] theorem Lane.resetLatches_dir (l : Lane) : (l.resetLatches).dir = l.dir := rfl
@[simp] theorem Lane.resetLatches_queue (l : Lane) : (l.resetLatches).queue = l.queue := rfl
@[simp] theorem Lane.resetLatches_move (l : Lane) : (l.resetLatches).move = l.move := rfl
@[simp] theorem Lane.resetLatches_moveTimer (l : Lane) : (l.resetLatches).moveTimer = l.moveTimer := rfl
@[simp] theorem Lane.resetLatches_zones (l : Lane) : (l.resetLatches).zones = l.zones := rfl
@[simp] theorem Lane.resetLatches_turnaround (l : Lane) : (l.resetLatches).turnaround = l.turnaround := rfl
@[simp] theorem Lane.resetLatches_sEnd (l : Lane) : (l.resetLatches).sEnd = l.sEnd := rfl
@[simp] theorem Lane.resetLatches_lEnd (l : Lane) : (l.resetLatches).lEnd = l.lEnd := rfl
@[simp] theorem Lane.resetLatches_encA (l : Lane) : (l.resetLatches).encA = l.encA := rfl
@[simp] theorem Lane.resetLatches_encB (l : Lane) : (l.resetLatches).encB = l.encB := rfl
@[simp] theorem Lane.resetLatches_sensing (l : Lane) : (l.resetLatches).sensing = l.sensing := rfl
@[simp] theorem Lane.resetLatches_laneHold (l : Lane) : (l.resetLatches).laneHold = l.laneHold := rfl
@[simp] theorem Lane.resetLatches_effHold (l : Lane) : (l.resetLatches).effHold = l.effHold := rfl
@[simp] theorem Lane.reserveLift_state (l : Lane) (h : LiftHand) (w : Nat) : (l.reserveLift h w).state = l.state := rfl
@[simp] theorem Lane.reserveLift_kind (l : Lane) (h : LiftHand) (w : Nat) : (l.reserveLift h w).kind = l.kind := rfl
@[simp] theorem Lane.reserveLift_n (l : Lane) (h : LiftHand) (w : Nat) : (l.reserveLift h w).n = l.n := rfl
@[simp] theorem Lane.reserveLift_dir (l : Lane) (h : LiftHand) (w : Nat) : (l.reserveLift h w).dir = l.dir := rfl
@[simp] theorem Lane.reserveLift_queue (l : Lane) (h : LiftHand) (w : Nat) : (l.reserveLift h w).queue = l.queue := rfl
@[simp] theorem Lane.reserveLift_move (l : Lane) (h : LiftHand) (w : Nat) : (l.reserveLift h w).move = l.move := rfl
@[simp] theorem Lane.reserveLift_moveTimer (l : Lane) (h : LiftHand) (w : Nat) : (l.reserveLift h w).moveTimer = l.moveTimer := rfl
@[simp] theorem Lane.reserveLift_zones (l : Lane) (h : LiftHand) (w : Nat) : (l.reserveLift h w).zones = l.zones := rfl
@[simp] theorem Lane.reserveLift_turnaround (l : Lane) (h : LiftHand) (w : Nat) : (l.reserveLift h w).turnaround = l.turnaround := rfl
@[simp] theorem Lane.reserveLift_sEnd (l : Lane) (h : LiftHand) (w : Nat) : (l.reserveLift h w).sEnd = l.sEnd := rfl
@[simp] theorem Lane.reserveLift_tracker (l : Lane) (h : LiftHand) (w : Nat) : (l.reserveLift h w).tracker = l.tracker := rfl
@[simp] theorem Lane.reserveLift_encA (l : Lane) (h : LiftHand) (w : Nat) : (l.reserveLift h w).encA = l.encA := rfl
@[simp] theorem Lane.reserveLift_encB (l : Lane) (h : LiftHand) (w : Nat) : (l.reserveLift h w).encB = l.encB := rfl
@[simp] theorem Lane.reserveLift_sensing (l : Lane) (h : LiftHand) (w : Nat) : (l.reserveLift h w).sensing = l.sensing := rfl
@[simp] theorem Lane.reserveLift_laneHold (l : Lane) (h : LiftHand) (w : Nat) : (l.reserveLift h w).laneHold = l.laneHold := rfl
@[simp] theorem Lane.reserveLift_effHold (l : Lane) (h : LiftHand) (w : Nat) : (l.reserveLift h w).effHold = l.effHold := rfl
@[simp] theorem Lane.reserveLift_sLatch (l : Lane) (h : LiftHand) (w : Nat) : (l.reserveLift h w).sLatch = l.sLatch := rfl
@[simp] theorem Lane.reserveLift_lLatch (l : Lane) (h : LiftHand) (w : Nat) : (l.reserveLift h w).lLatch = l.lLatch := rfl
@[simp] theorem Lane.beginDraining_kind (l : Lane) (p : Partner) (d : Dir) (w : Nat) : (l.beginDraining p d w).kind = l.kind := rfl
@[simp] theorem Lane.beginDraining_n (l : Lane) (p : Partner) (d : Dir) (w : Nat) : (l.beginDraining p d w).n = l.n := rfl
@[simp] theorem Lane.beginDraining_dir (l : Lane) (p : Partner) (d : Dir) (w : Nat) : (l.beginDraining p d w).dir = l.dir := rfl
@[simp] theorem Lane.beginDraining_queue (l : Lane) (p : Partner) (d : Dir) (w : Nat) : (l.beginDraining p d w).queue = l.queue := rfl
@[simp] theorem Lane.beginDraining_move (l : Lane) (p : Partner) (d : Dir) (w : Nat) : (l.beginDraining p d w).move = l.move := rfl
@[simp] theorem Lane.beginDraining_moveTimer (l : Lane) (p : Partner) (d : Dir) (w : Nat) : (l.beginDraining p d w).moveTimer = l.moveTimer := rfl
@[simp] theorem Lane.beginDraining_zones (l : Lane) (p : Partner) (d : Dir) (w : Nat) : (l.beginDraining p d w).zones = l.zones := rfl
@[simp] theorem Lane.beginDraining_sEnd (l : Lane) (p : Partner) (d : Dir) (w : Nat) : (l.beginDraining p d w).sEnd = l.sEnd := rfl
@[simp] theorem Lane.beginDraining_lEnd (l : Lane) (p : Partner) (d : Dir) (w : Nat) : (l.beginDraining p d w).lEnd = l.lEnd := rfl
@[simp] theorem Lane.beginDraining_tracker (l : Lane) (p : Partner) (d : Dir) (w : Nat) : (l.beginDraining p d w).tracker = l.tracker := rfl
@[simp] theorem Lane.beginDraining_encA (l : Lane) (p : Partner) (d : Dir) (w : Nat) : (l.beginDraining p d w).encA = l.encA := rfl
@[simp] theorem Lane.beginDraining_encB (l : Lane) (p : Partner) (d : Dir) (w : Nat) : (l.beginDraining p d w).encB = l.encB := rfl
@[simp] theorem Lane.beginDraining_sensing (l : Lane) (p : Partner) (d : Dir) (w : Nat) : (l.beginDraining p d w).sensing = l.sensing := rfl
@[simp] theorem Lane.beginDraining_laneHold (l : Lane) (p : Partner) (d : Dir) (w : Nat) : (l.beginDraining p d w).laneHold = l.laneHold := rfl
@[simp] theorem Lane.beginDraining_effHold (l : Lane) (p : Partner) (d : Dir) (w : Nat) : (l.beginDraining p d w).effHold = l.effHold := rfl
@[simp] theorem Lane.beginDraining_sLatch (l : Lane) (p : Partner) (d : Dir) (w : Nat) : (l.beginDraining p d w).sLatch = l.sLatch := rfl
@[simp] theorem Lane.beginDraining_lLatch (l : Lane) (p : Partner) (d : Dir) (w : Nat) : (l.beginDraining p d w).lLatch = l.lLatch := rfl
@[simp] theorem Lane.input_setInput_same (l : Lane) (e : InputId) (x : Input) : (l.setInput e x).input e = x := by
  simp [Lane.input, Lane.setInput]
theorem inputIndex_injective {e e' : InputId} (h : inputIndex e = inputIndex e') : e = e' := by
  cases e <;> cases e' <;> simp_all [inputIndex, Fin.ext_iff] <;> omega
theorem Lane.input_setInput_ne (l : Lane) {e e' : InputId} (h : e' ≠ e) (x : Input) :
    (l.setInput e x).input e' = l.input e' := by
  have hne : (inputIndex e).val ≠ (inputIndex e').val := fun hv => h (inputIndex_injective (Fin.ext hv)).symm
  simp [Lane.input, Lane.setInput, hne]

end Sys2Proof.Machine
end

