-- ==== Sys2Proof/Laws/Grows.lean ====
section
/-! SUPPORT. What the handling of one lane's event can do, said once (`Acts`) and proved of every shared operation of the lane
unit, the two end engines and the tracker: it stays within its lane, only adds frames, and only raises occurrences. What the
fault log makes of those. -/

namespace Sys2Proof.Machine

open Sys2Proof

/-! ### The relations -/

/-- A log that has only been added to: occurrences recorded, and nothing cleared. -/
structure FaultLog.Grows (g h : FaultLog) : Prop where
  status : ∀ k, (g.kind k).status = true → (h.kind k).status = true
  count : ∀ k, (g.kind k).count ≤ 255 → (g.kind k).count ≤ (h.kind k).count ∧ (h.kind k).count ≤ 255
  masks : ∀ k, (h.kind k).masked = (g.kind k).masked ∧ (h.kind k).escalate = (g.kind k).escalate
  first : ∀ r, g.first = some r → ∃ m, h.first = some { r with multiple := m } ∧ (r.multiple = true → m = true)

/-- What an event's handling leaves of a lane, its own included: its fitting, its sensing unit, its encoder pins, its holds,
and FAULTED once it is. -/
structure Lane.Keeps (l m : Lane) : Prop where
  kind : m.kind = l.kind
  n : m.n = l.n
  sensing : m.sensing = l.sensing
  encA : m.encA = l.encA
  encB : m.encB = l.encB
  laneHold : m.laneHold = l.laneHold
  effHold : m.effHold = l.effHold
  faulted : l.state = .faulted → m.state = .faulted

/-- The state without what the handling of a lane's event and of its faults may change: the lanes, the group table, the level
hold, the log with the occurrences on their way to it, the transmit queues and the free choices. -/
def State.world (s : State) : State :=
  { s with
    lane0 := .initial true, lane1 := .initial true, groups := [], levelHold := false, log := .initial
    bus := { s.bus with urgent := [], routine := [] }, unlogged := [], choices := 0 }

/-- What the handling of an event of lane `i` can do. -/
structure Acts (i : LaneId) (s t : State) : Prop where
  world : t.world = s.world
  own : (s.lane i).Keeps (t.lane i)
  other : t.lane (otherLane i) = s.lane (otherLane i)
  groups : t.groups.Sublist s.groups
  levelHold : t.levelHold = s.levelHold
  log : t.log = s.log
  unlogged : s.unlogged <+: t.unlogged
  urgent : s.bus.urgent <+: t.bus.urgent
  routine : s.bus.routine <+: t.bus.routine
  urgentRoom : s.bus.urgent.length ≤ 8 → t.bus.urgent.length ≤ 8
  routineRoom : s.bus.routine.length ≤ 8 → t.bus.routine.length ≤ 8

theorem FaultLog.Grows.refl (g : FaultLog) : g.Grows g where
  status _ h := h
  count _ h := ⟨Nat.le_refl _, h⟩
  masks _ := ⟨rfl, rfl⟩
  first r h := ⟨r.multiple, h, id⟩

theorem FaultLog.Grows.trans {g h k : FaultLog} (a : g.Grows h) (b : h.Grows k) : g.Grows k where
  status x hx := b.status x (a.status x hx)
  count x hx :=
    have h1 := a.count x hx
    have h2 := b.count x h1.2
    ⟨Nat.le_trans h1.1 h2.1, h2.2⟩
  masks x := ⟨(b.masks x).1.trans (a.masks x).1, (b.masks x).2.trans (a.masks x).2⟩
  first r hr := by
    obtain ⟨m, hm, h1⟩ := a.first r hr
    obtain ⟨m', hm', h2⟩ := b.first _ hm
    exact ⟨m', hm', fun h => h2 (h1 h)⟩

theorem Lane.Keeps.refl (l : Lane) : l.Keeps l := ⟨rfl, rfl, rfl, rfl, rfl, rfl, rfl, id⟩

theorem Lane.Keeps.trans {l m k : Lane} (a : l.Keeps m) (b : m.Keeps k) : l.Keeps k :=
  ⟨b.kind.trans a.kind, b.n.trans a.n, b.sensing.trans a.sensing, b.encA.trans a.encA, b.encB.trans a.encB,
   b.laneHold.trans a.laneHold, b.effHold.trans a.effHold, fun h => b.faulted (a.faulted h)⟩

theorem Acts.refl (i : LaneId) (s : State) : Acts i s s :=
  ⟨rfl, .refl _, rfl, List.Sublist.refl _, rfl, rfl, List.prefix_refl _, List.prefix_refl _, List.prefix_refl _, id, id⟩

theorem Acts.trans {i : LaneId} {s t u : State} (a : Acts i s t) (b : Acts i t u) : Acts i s u :=
  ⟨b.world.trans a.world, a.own.trans b.own, b.other.trans a.other, b.groups.trans a.groups,
   b.levelHold.trans a.levelHold, b.log.trans a.log, a.unlogged.trans b.unlogged, a.urgent.trans b.urgent,
   a.routine.trans b.routine,
   fun h => b.urgentRoom (a.urgentRoom h), fun h => b.routineRoom (a.routineRoom h)⟩

/-! ### The fault log and the transmit queues -/

theorem faultIndex_injective {k k' : FaultKind} (h : faultIndex k = faultIndex k') : k = k' := by
  cases k <;> cases k' <;> first | rfl | exact absurd h (by decide)

/-- The log of a kind after an occurrence: counted for its own kind, untouched for the others. -/
theorem recordOccurrence_kind (o : Occurrence) (s : State) (k : FaultKind) :
    (recordOccurrence o s).log.kind k = if k = o.kind then countOccurrence (s.log.kind k) else s.log.kind k := by
  by_cases h : k = o.kind
  · subst h; simp [recordOccurrence, FaultLog.kind]
  · have hne : (faultIndex o.kind).val ≠ (faultIndex k).val := fun hv => h (faultIndex_injective (Fin.ext hv)).symm
    simp [recordOccurrence, FaultLog.kind, h, hne]

theorem recordOccurrence_log_grows (o : Occurrence) (s : State) : s.log.Grows (recordOccurrence o s).log where
  status k h := by rw [recordOccurrence_kind]; split <;> simp_all [countOccurrence]
  count k h := by
    rw [recordOccurrence_kind]
    split
    · next hk => subst hk; simp only [countOccurrence]; omega
    · exact ⟨Nat.le_refl _, h⟩
  masks k := by rw [recordOccurrence_kind]; split <;> simp [countOccurrence]
  first r h := by
    by_cases hm : (s.log.kind o.kind).masked = true
    · exact ⟨r.multiple, by simp [recordOccurrence, hm, h], id⟩
    · exact ⟨true, by simp [recordOccurrence, hm, h, fillFirst], fun _ => rfl⟩

theorem raiseOccurrence_acts (i : LaneId) (b : Block) (o : Occurrence) (s : State) : Acts i s (raiseOccurrence b o s) where
  world := rfl
  own := by rw [raiseOccurrence_lane]; exact .refl _
  other := raiseOccurrence_lane b o s _
  groups := List.Sublist.refl _
  levelHold := rfl
  log := rfl
  unlogged := List.prefix_append _ _
  urgent := List.prefix_refl _
  routine := List.prefix_refl _
  urgentRoom h := h
  routineRoom h := h

theorem pushUrgent_acts (i : LaneId) (f : Frame) (s : State) (h : s.bus.urgent.length < 8) : Acts i s (pushUrgent f s) where
  world := rfl
  own := by rw [pushUrgent_lane]; exact .refl _
  other := pushUrgent_lane f s _
  groups := List.Sublist.refl _
  levelHold := rfl
  log := rfl
  unlogged := List.prefix_refl _
  urgent := List.prefix_append _ _
  routine := List.prefix_refl _
  urgentRoom _ := by simp; omega
  routineRoom h := h

theorem pushRoutine_acts (i : LaneId) (f : Frame) (s : State) (h : s.routineRoom = true) : Acts i s (pushRoutine f s) where
  world := rfl
  own := by rw [pushRoutine_lane]; exact .refl _
  other := pushRoutine_lane f s _
  groups := List.Sublist.refl _
  levelHold := rfl
  log := rfl
  unlogged := List.prefix_refl _
  urgent := List.prefix_refl _
  routine := List.prefix_append _ _
  urgentRoom h := h
  routineRoom _ := by
    have h' : s.bus.routine.length < 8 := of_decide_eq_true h
    rw [pushRoutine_routine, List.length_append]
    exact h'

/-- A frame is never taken from the urgent queue by an append, and a lane is not touched. -/
@[simp] theorem appendFrame_lane (f : Frame) (s : State) (i : LaneId) : (appendFrame f s).lane i = s.lane i := by
  simp only [appendFrame]; split <;> split <;> simp

theorem appendFrame_acts (i : LaneId) (f : Frame) (s : State) : Acts i s (appendFrame f s) := by
  simp only [appendFrame]
  split <;> split
  · exact pushUrgent_acts i f s (by assumption)
  · exact raiseOccurrence_acts i _ _ s
  · exact pushRoutine_acts i f s (by assumption)
  · exact raiseOccurrence_acts i _ _ s

/-- R174: an urgent frame with room is appended, and nothing else happens. -/
theorem appendFrame_of_room (f : Frame) (s : State) (hc : f.cls.toNat ≤ 3) (h : s.bus.urgent.length < 8) :
    appendFrame f s = pushUrgent f s := by
  simp [appendFrame, hc, txCapacity, h]

/-- R174: an urgent frame that finds its queue full is dropped, and the bus link raises TX_OVERFLOW. -/
theorem appendFrame_of_full (f : Frame) (s : State) (hc : f.cls.toNat ≤ 3) (h : 8 ≤ s.bus.urgent.length) :
    appendFrame f s = raiseOccurrence .busLink (overflowOf f) s := by
  simp [appendFrame, hc, txCapacity, Nat.not_lt.mpr h]

/-! ### Chains -/

theorem Acts.append {i : LaneId} {s t : State} (a : Acts i s t) (f : Frame) : Acts i s (appendFrame f t) :=
  a.trans (appendFrame_acts i f t)

theorem Acts.raised {i : LaneId} {s t : State} (a : Acts i s t) (b : Block) (o : Occurrence) :
    Acts i s (raiseOccurrence b o t) := a.trans (raiseOccurrence_acts i b o t)

theorem setLane_acts (i : LaneId) (l : Lane) (s : State) (h : (s.lane i).Keeps l) : Acts i s (s.setLane i l) where
  world := by cases i <;> rfl
  own := by simpa using h
  other := by simp
  groups := by simp
  levelHold := by simp
  log := by simp
  unlogged := by simp
  urgent := by simp
  routine := by simp
  urgentRoom h := by simpa using h
  routineRoom h := by simpa using h

theorem Acts.set {i : LaneId} {s t : State} (a : Acts i s t) {l : Lane} (h : (t.lane i).Keeps l) : Acts i s (t.setLane i l) :=
  a.trans (setLane_acts i l t h)

theorem Acts.mod {i : LaneId} {s t : State} (a : Acts i s t) {f : Lane → Lane} (h : (t.lane i).Keeps (f (t.lane i))) :
    Acts i s (t.modLane i f) := a.trans (setLane_acts i _ t h)

theorem Acts.ite {i : LaneId} {s t u : State} {c : Prop} [Decidable c] (a : Acts i s t) (b : Acts i s u) :
    Acts i s (if c then t else u) := by split <;> assumption

theorem Acts.foldl {i : LaneId} {s : State} {α : Type} {g : State → α → State} (xs : List α) :
    ∀ {t : State}, Acts i s t → (∀ t x, Acts i t (g t x)) → Acts i s (xs.foldl g t) := by
  induction xs with
  | nil => intro t a _; exact a
  | cons x xs ih => intro t a h; exact ih (a.trans (h t x)) h

theorem choices_acts (i : LaneId) (n : Nat) (s : State) : Acts i s { s with choices := n } where
  world := rfl
  own := by cases i <;> exact .refl _
  other := by cases i <;> rfl
  groups := List.Sublist.refl _
  levelHold := rfl
  log := rfl
  unlogged := List.prefix_refl _
  urgent := List.prefix_refl _
  routine := List.prefix_refl _
  urgentRoom h := h
  routineRoom h := h

/-- One action of the list is taken, and the others are left. -/
theorem takeOne_takes (actions : List (State → State)) (s : State) :
    (∀ x ∈ (takeOne actions s).1, x ∈ actions) ∧ (takeOne actions s).1.length = actions.length - 1
      ∧ ((actions = [] ∧ (takeOne actions s).2 = s)
        ∨ ∃ f ∈ actions, ∃ c, (takeOne actions s).2 = f { s with choices := c }) := by
  match actions with
  | [] => exact ⟨by simp [takeOne], rfl, .inl ⟨rfl, rfl⟩⟩
  | [f] => exact ⟨by simp [takeOne], rfl, .inr ⟨f, by simp, s.choices, rfl⟩⟩
  | f :: g :: rest =>
    have hk : freeChoice s.choices % (f :: g :: rest).length < (f :: g :: rest).length := Nat.mod_lt _ (by simp)
    refine ⟨fun x hx => List.mem_of_mem_eraseIdx hx, List.length_eraseIdx_of_lt hk, .inr
      ⟨(f :: g :: rest).getD (freeChoice s.choices % (f :: g :: rest).length) id, ?_, s.choices + 1, rfl⟩⟩
    rw [List.getD_eq_getElem?_getD, List.getElem?_eq_getElem hk]
    exact List.getElem_mem hk

/-- A relation of states that free choices and each action of a list keep, and that composes. -/
structure Carried (R : State → State → Prop) (actions : List (State → State)) : Prop where
  refl : ∀ s, R s s
  trans : ∀ {s t u}, R s t → R t u → R s u
  choice : ∀ (s : State) (c : Nat), R s { s with choices := c }
  action : ∀ f ∈ actions, ∀ t, R t (f t)

theorem Carried.keepsOne {R : State → State → Prop} {actions : List (State → State)} (h : Carried R actions) (s : State) :
    R s (takeOne actions s).2 ∧ Carried R (takeOne actions s).1 := by
  obtain ⟨hm, -, ⟨-, he⟩ | ⟨f, hf, c, he⟩⟩ := takeOne_takes actions s
  · exact ⟨by rw [he]; exact h.refl s, h.refl, h.trans, h.choice, fun f hf => h.action f (hm f hf)⟩
  · exact ⟨by rw [he]; exact h.trans (h.choice s c) (h.action f hf _), h.refl, h.trans, h.choice, fun f hf => h.action f (hm f hf)⟩

/-- What every action of a list keeps, their free order keeps. -/
theorem Carried.keeps {R : State → State → Prop} (fuel : Nat) :
    ∀ {actions : List (State → State)} (_ : Carried R actions) (s : State), R s (runFreely fuel actions s) := by
  induction fuel with
  | zero => exact fun h s => h.refl s
  | succ fuel ih => exact fun h s => h.trans (h.keepsOne s).1 (ih (h.keepsOne s).2 _)

theorem inEitherOrder_acts (i : LaneId) (actions : List (State → State)) (s : State)
    (h : ∀ f ∈ actions, ∀ t, Acts i t (f t)) : Acts i s (inEitherOrder actions s) :=
  Carried.keeps _ ⟨Acts.refl i, Acts.trans, fun s c => choices_acts i c s, h⟩ s

/-! ### Records removed -/

theorem removalCheck_acts (i : LaneId) (g : GroupNo) (s : State) : Acts i s (removalCheck g s) where
  world := rfl
  own := by rw [removalCheck_lane]; exact .refl _
  other := removalCheck_lane g s _
  groups := List.filter_sublist
  levelHold := rfl
  log := rfl
  unlogged := List.prefix_refl _
  urgent := List.prefix_refl _
  routine := List.prefix_refl _
  urgentRoom h := h
  routineRoom h := h

theorem announceRemoval_acts (i : LaneId) (t : Tote) (s : State) : Acts i s (announceRemoval t s) := by
  simp only [announceRemoval]
  split <;> first | exact removalCheck_acts i _ s | exact .refl i s

theorem removeRecords_acts (i : LaneId) (p : Tote → Bool) (s : State) : Acts i s (removeRecords i p s) :=
  Acts.foldl _ ((Acts.refl i s).mod ⟨rfl, rfl, rfl, rfl, rfl, rfl, rfl, id⟩) fun t r => announceRemoval_acts i r t

theorem Acts.remove {i : LaneId} {s t : State} (a : Acts i s t) (p : Tote → Bool) : Acts i s (removeRecords i p t) :=
  a.trans (removeRecords_acts i p t)

/-! ### Entering FAULTED -/

theorem Lane.strandSpanning_keeps (l : Lane) : l.Keeps l.strandSpanning := by
  simp only [Lane.strandSpanning]
  split
  · split <;> exact ⟨rfl, rfl, rfl, rfl, rfl, rfl, rfl, id⟩
  · exact .refl l

theorem faultLiftEnd_acts (i : LaneId) (s : State) : Acts i s (faultLiftEnd i s) := by
  simp only [faultLiftEnd]
  split
  · split
    · exact ((Acts.refl i s).append _).mod (Lane.strandSpanning_keeps _)
    · exact appendFrame_acts i _ s
  · exact .refl i s

theorem faultShuttleEnd_acts (i : LaneId) (s : State) : Acts i s (faultShuttleEnd i s) := by
  simp only [faultShuttleEnd]
  split
  · exact appendFrame_acts i _ s
  · exact .refl i s

theorem cancelTurnaround_acts (i : LaneId) (s : State) : Acts i s (cancelTurnaround i s) := by
  simp only [cancelTurnaround]
  split
  · exact ((Acts.refl i s).append _).mod ⟨rfl, rfl, rfl, rfl, rfl, rfl, rfl, id⟩
  · exact .refl i s

theorem enterFaulted_acts (i : LaneId) (s : State) : Acts i s (enterFaulted i s) := by
  have h1 : Acts i s (s.modLane i fun l => { l.stopZones with move := none, moveTimer := none }) :=
    (Acts.refl i s).mod ⟨rfl, rfl, rfl, rfl, rfl, rfl, rfl, id⟩
  have h2 := (h1.trans (faultLiftEnd_acts i _)).trans (faultShuttleEnd_acts i _)
  have h3 := h2.mod (f := fun l => l.sIdle.lIdle) ⟨rfl, rfl, rfl, rfl, rfl, rfl, rfl, id⟩
  exact (((h3.remove _).mod ⟨rfl, rfl, rfl, rfl, rfl, rfl, rfl, id⟩).trans (cancelTurnaround_acts i _)).mod
    (f := fun m => { m.stopTracker with state := .faulted }) ⟨rfl, rfl, rfl, rfl, rfl, rfl, rfl, fun _ => rfl⟩

theorem raiseLaneFault_acts (b : LaneBlock) (i : LaneId) (k : FaultKind) (tote : Option ToteId) (s : State) :
    Acts i s (raiseLaneFault b i k tote s) := by
  have h := raiseOccurrence_acts i (.ofLane b i) (s.laneOccurrence k i tote) s
  simp only [raiseLaneFault]
  split
  iterate 3 exact h.trans (enterFaulted_acts i _)
  iterate 2 exact h

theorem Acts.fault {i : LaneId} {s t : State} (a : Acts i s t) (b : LaneBlock) (k : FaultKind) (tote : Option ToteId) :
    Acts i s (raiseLaneFault b i k tote t) := a.trans (raiseLaneFault_acts b i k tote t)

/-! ### Moves and offers -/

theorem evalMove_acts (i : LaneId) (s : State) : Acts i s (evalMove i s) := by
  simp only [evalMove]
  split
  · split
    · split
      · exact raiseLaneFault_acts _ i _ _ s
      · exact setLane_acts i _ s ⟨rfl, rfl, rfl, rfl, rfl, rfl, rfl, id⟩
    · exact .refl i s
  · exact .refl i s

theorem evalHead_acts (i : LaneId) (s : State) : Acts i s (evalHead i s) := by
  simp only [evalHead]
  split
  · split
    · split
      · exact (Acts.refl i s).mod ⟨rfl, rfl, rfl, rfl, rfl, rfl, rfl, id⟩
      · exact ((Acts.refl i s).mod ⟨rfl, rfl, rfl, rfl, rfl, rfl, rfl, id⟩).append _
    · exact .refl i s
  · exact .refl i s

theorem evalSecond_acts (i : LaneId) (s : State) : Acts i s (evalSecond i s) := by
  simp only [evalSecond]
  split
  · split
    · split
      · exact (Acts.refl i s).mod ⟨rfl, rfl, rfl, rfl, rfl, rfl, rfl, id⟩
      · exact ((Acts.refl i s).mod ⟨rfl, rfl, rfl, rfl, rfl, rfl, rfl, id⟩).append _
    · exact .refl i s
  · exact .refl i s

theorem evalLift_acts (i : LaneId) (s : State) : Acts i s (evalLift i s) :=
  (evalHead_acts i s).trans (evalSecond_acts i _)

theorem evalShuttle_acts (i : LaneId) (s : State) : Acts i s (evalShuttle i s) := by
  simp only [evalShuttle]
  split
  · split
    · split
      · exact (Acts.refl i s).mod ⟨rfl, rfl, rfl, rfl, rfl, rfl, rfl, id⟩
      · exact ((Acts.refl i s).mod ⟨rfl, rfl, rfl, rfl, rfl, rfl, rfl, id⟩).append _
    · exact .refl i s
  · exact .refl i s

theorem announceSeated_acts (i : LaneId) (k : Nat) (s : State) : Acts i s (announceSeated i k s) := by
  simp only [announceSeated]
  split <;> split <;> first | exact .refl i s | exact evalLift_acts i s | exact evalShuttle_acts i s

theorem withdrawLift_acts (i : LaneId) (s : State) : Acts i s (withdrawLift i s) := by
  simp only [withdrawLift]
  split
  · split
    · exact (((Acts.refl i s).append _).append _).mod ⟨rfl, rfl, rfl, rfl, rfl, rfl, rfl, id⟩
    · exact ((Acts.refl i s).append _).mod ⟨rfl, rfl, rfl, rfl, rfl, rfl, rfl, id⟩
  · exact .refl i s

theorem withdrawSecond_acts (i : LaneId) (s : State) : Acts i s (withdrawSecond i s) := by
  simp only [withdrawSecond]
  split
  · exact ((Acts.refl i s).append _).mod ⟨rfl, rfl, rfl, rfl, rfl, rfl, rfl, id⟩
  · exact .refl i s

theorem withdrawShuttle_acts (i : LaneId) (s : State) : Acts i s (withdrawShuttle i s) := by
  simp only [withdrawShuttle]
  split
  · exact ((Acts.refl i s).append _).mod ⟨rfl, rfl, rfl, rfl, rfl, rfl, rfl, id⟩
  · exact .refl i s

/-! ### The turnaround's end and an end's return to IDLE -/

theorem examineEyes_acts (i : LaneId) (s : State) : Acts i s (examineEyes i s) := by
  simp only [examineEyes]
  split
  · exact raiseLaneFault_acts _ i _ _ s
  · split
    · exact raiseLaneFault_acts _ i _ _ s
    · exact .refl i s

/-- A turnaround ends in a lane that is not FAULTED. -/
theorem endTurnaround_acts (i : LaneId) (o : TurnOutcome) (s : State) (h : (s.lane i).state ≠ .faulted) :
    Acts i s (endTurnaround i o s) := by
  simp only [endTurnaround]
  split
  · rename_i t _
    have h1 : Acts i s (s.setLane i
        { s.lane i with
          turnaround := none, dir := if o = .turned then t.asked else (s.lane i).dir, state := .running }) :=
      setLane_acts i _ s ⟨rfl, rfl, rfl, rfl, rfl, rfl, rfl, fun hf => absurd hf h⟩
    have h2 := Acts.ite (c := (s.lane i).state = .turning) (h1.trans (examineEyes_acts i _)) h1
    exact Acts.ite ((((h2.append _).trans (evalMove_acts i _)).trans (evalShuttle_acts i _)).trans (evalLift_acts i _))
      (h2.append _)
  · exact .refl i s

theorem emptyTest_acts (i : LaneId) (s : State) : Acts i s (emptyTest i s) := by
  simp only [emptyTest]
  split
  · rename_i t _
    split
    · rename_i hd
      have hne : (s.lane i).state ≠ .faulted := by
        intro hf; simp [hf] at hd
      have h1 : Acts i s (s.setLane i
          { s.lane i with state := .turning, turnaround := some { t with drainTimer := none } }) :=
        setLane_acts i _ s ⟨rfl, rfl, rfl, rfl, rfl, rfl, rfl, fun hf => absurd hf hne⟩
      split
      iterate 2 exact (h1.append _).mod ⟨rfl, rfl, rfl, rfl, rfl, rfl, rfl, id⟩
      iterate 2 exact h1.trans (endTurnaround_acts i _ _ (by simp))
    · exact .refl i s
  · exact .refl i s

theorem sillTest_acts (i : LaneId) (e : LaneEnd) (s : State) : Acts i s (sillTest i e s) := by
  simp only [sillTest]
  split
  · exact raiseLaneFault_acts _ i _ _ s
  · exact .refl i s

theorem liftReturned_acts (i : LaneId) (s : State) : Acts i s (liftReturned i s) :=
  (((sillTest_acts i _ s).trans (emptyTest_acts i _)).trans (evalMove_acts i _)).trans (evalLift_acts i _)

theorem shuttleReturned_acts (i : LaneId) (s : State) : Acts i s (shuttleReturned i s) :=
  (((sillTest_acts i _ s).trans (emptyTest_acts i _)).trans (evalMove_acts i _)).trans (evalShuttle_acts i _)

end Sys2Proof.Machine
end

