-- ==== Sys2Proof/Laws/Ends.lean ====
section
/-! SUPPORT. `Acts` of the operations of the shuttle-end engine, the lift-end engine with its tracker, and the edges that
reach them: each stays within its lane, only adds frames, and only raises occurrences. -/

namespace Sys2Proof.Machine

open Sys2Proof

/-! ### The shuttle-end engine -/

theorem Lane.Keeps.mapQueue {l m : Lane} (h : l.Keeps m) (f : Tote → Tote) : l.Keeps (m.mapQueue f) :=
  ⟨h.kind, h.n, h.sensing, h.encA, h.encB, h.laneHold, h.effHold, h.faulted⟩

theorem Lane.Keeps.requeue {l m : Lane} (h : l.Keeps m) (q : List Tote) : l.Keeps { m with queue := q } :=
  ⟨h.kind, h.n, h.sensing, h.encA, h.encB, h.laneHold, h.effHold, h.faulted⟩

theorem Lane.stopEntry_keeps (l : Lane) : l.Keeps (l.setZone 0 .stop) := ⟨rfl, rfl, rfl, rfl, rfl, rfl, rfl, id⟩

theorem Lane.Keeps.sIdle {l m : Lane} (h : l.Keeps m) : l.Keeps m.sIdle :=
  ⟨h.kind, h.n, h.sensing, h.encA, h.encB, h.laneHold, h.effHold, h.faulted⟩

theorem endPutEmpty_acts (i : LaneId) (o : Ending) (h : ShuttleHand) (s : State) : Acts i s (endPutEmpty i o h s) :=
  ((((Acts.refl i s).append _).mod (f := fun l => (l.setZone 0 .stop).sIdle) (Lane.stopEntry_keeps _).sIdle).remove
    _).trans (shuttleReturned_acts i _)

theorem endFetchRestored_acts (i : LaneId) (o : Ending) (h : ShuttleHand) (s : State) :
    Acts i s (endFetchRestored i o h s) :=
  (((Acts.refl i s).append _).mod (f := fun l => ((l.setZone 0 .stop).mapQueue Tote.restore).sIdle)
    ((Lane.stopEntry_keeps _).mapQueue _).sIdle).trans (shuttleReturned_acts i _)

theorem putDone_acts (i : LaneId) (h : ShuttleHand) (s : State) : Acts i s (putDone i h s) := by
  have h1 := ((Acts.refl i s).append (s.shuttleEndFrame i .done h)).mod
    (f := fun l => ((l.setZone 0 .stop).mapQueue fun t => if t.state = .entering then t.seat else t).sIdle)
    ((Lane.stopEntry_keeps _).mapQueue _).sIdle
  have h2 := (h1.trans (sillTest_acts i .shuttleEnd _)).trans (emptyTest_acts i _)
  exact ((h2.trans (announceSeated_acts i 0 _)).trans (evalMove_acts i _)).trans (evalShuttle_acts i _)

theorem fetchDone_acts (i : LaneId) (h : ShuttleHand) (s : State) : Acts i s (fetchDone i h s) :=
  ((((Acts.refl i s).append _).mod (f := fun l => (l.setZone 0 .stop).sIdle) (Lane.stopEntry_keeps _).sIdle).remove
    _).trans (shuttleReturned_acts i _)

theorem testCompletion_acts (i : LaneId) (s : State) : Acts i s (testCompletion i s) := by
  simp only [testCompletion]
  split
  · exact Acts.ite (putDone_acts i _ s) (.refl i s)
  · exact Acts.ite (fetchDone_acts i _ s) (.refl i s)
  · exact .refl i s
  · exact .refl i s

theorem shuttleSillEdge_acts (i : LaneId) (b : Bool) (s : State) : Acts i s (shuttleSillEdge i b s) := by
  simp only [shuttleSillEdge]
  split
  · exact Acts.ite (setLane_acts i _ s ⟨rfl, rfl, rfl, rfl, rfl, rfl, rfl, id⟩) (.refl i s)
  · refine Acts.trans ?_ (testCompletion_acts i _)
    exact Acts.ite (setLane_acts i _ s ⟨rfl, rfl, rfl, rfl, rfl, rfl, rfl, id⟩) (.refl i s)
  iterate 2 exact Acts.ite (raiseLaneFault_acts _ i _ _ s) (.refl i s)

theorem shuttleStopEdge_acts (i : LaneId) (b : Bool) (s : State) : Acts i s (shuttleStopEdge i b s) := by
  simp only [shuttleStopEdge]
  split
  · exact Acts.ite (raiseLaneFault_acts _ i _ _ s) (.refl i s)
  · exact testCompletion_acts i s
  iterate 2 exact .refl i s

theorem lapseShuttle_acts (i : LaneId) (r : LapseReason) (s : State) : Acts i s (lapseShuttle i r s) := by
  simp only [lapseShuttle]
  split
  · exact endPutEmpty_acts i _ _ s
  · exact .refl i s

theorem interruptFetch_acts (i : LaneId) (o : Ending) (id : Option ToteId) (s : State) :
    Acts i s (interruptFetch i o id s) := Acts.ite (endFetchRestored_acts i _ _ s) (raiseLaneFault_acts _ i _ _ s)

theorem putWindowExpires_acts (i : LaneId) (s : State) : Acts i s (putWindowExpires i s) := by
  simp only [putWindowExpires]
  split
  · exact lapseShuttle_acts i _ s
  · exact .refl i s

theorem entryTimerExpires_acts (i : LaneId) (s : State) : Acts i s (entryTimerExpires i s) := by
  simp only [entryTimerExpires]
  split
  · exact raiseLaneFault_acts _ i _ _ s
  · exact .refl i s

theorem fetchWindowExpires_acts (i : LaneId) (s : State) : Acts i s (fetchWindowExpires i s) := by
  simp only [fetchWindowExpires]
  split
  · exact interruptFetch_acts i _ _ s
  · exact .refl i s

theorem abortShuttle_acts (i : LaneId) (src : NodeId) (s : State) : Acts i s (abortShuttle i src s) := by
  refine Acts.ite (.refl i s) ?_
  split
  · exact endPutEmpty_acts i _ _ s
  · exact Acts.ite (raiseLaneFault_acts _ i _ _ s) (endPutEmpty_acts i _ _ s)
  · exact interruptFetch_acts i _ _ s
  · exact .refl i s

/-! ### The lift-end engine -/

theorem Lane.setLiftZones_keeps (l : Lane) (h : LiftHand) (d : Drive) : l.Keeps (l.setLiftZones h d) := by
  simp only [Lane.setLiftZones]
  split <;> exact ⟨rfl, rfl, rfl, rfl, rfl, rfl, rfl, id⟩

theorem Lane.leaveLift_keeps (l : Lane) (h : LiftHand) : l.Keeps (l.leaveLift h) :=
  (Lane.setLiftZones_keeps l h .stop).trans ⟨rfl, rfl, rfl, rfl, rfl, rfl, rfl, id⟩

theorem endReserved_acts (i : LaneId) (o : Ending) (h : LiftHand) (s : State) : Acts i s (endReserved i o h s) := by
  have h1 := ((Acts.refl i s).append (s.liftEndFrame i o h)).mod (f := fun l => l.leaveLift h) (Lane.leaveLift_keeps _ h)
  simp only [endReserved]
  split
  · exact (h1.mod ⟨rfl, rfl, rfl, rfl, rfl, rfl, rfl, id⟩).trans (liftReturned_acts i _)
  · exact (h1.remove _).trans (liftReturned_acts i _)

theorem takeDone_acts (i : LaneId) (h : LiftHand) (s : State) : Acts i s (takeDone i h s) :=
  ((((Acts.refl i s).append _).mod (f := fun l => l.leaveLift h) (Lane.leaveLift_keeps _ h)).remove _).trans
    (liftReturned_acts i _)

theorem giveDone_acts (i : LaneId) (h : LiftHand) (s : State) : Acts i s (giveDone i h s) := by
  have h1 := ((Acts.refl i s).append (s.liftEndFrame i .done h)).mod
    (f := fun l => (l.leaveLift h).mapQueue fun t => if t.state = .entering then t.seat else t)
    ((Lane.leaveLift_keeps _ h).mapQueue _)
  have h2 := (h1.trans (sillTest_acts i .liftEnd _)).trans (emptyTest_acts i _)
  exact ((h2.trans (announceSeated_acts i _ _)).trans (evalMove_acts i _)).trans (evalLift_acts i _)

theorem firstToteGone_acts (i : LaneId) (h : LiftHand) (s : State) : Acts i s (firstToteGone i h s) :=
  (Acts.foldl _ ((Acts.refl i s).mod ⟨rfl, rfl, rfl, rfl, rfl, rfl, rfl, id⟩) fun t r => announceRemoval_acts i r t).trans
    (evalMove_acts i _)

theorem interruptTake_acts (i : LaneId) (h : LiftHand) (s : State) : Acts i s (interruptTake i h s) :=
  Acts.ite
    ((((Acts.refl i s).append _).mod
      (f := fun m => { m.leaveLift h with
        queue := seatAt (((s.lane i).takePositions h).filter (s.lane i).stopBlocked) m.queue })
      ((Lane.leaveLift_keeps _ h).requeue _)).trans (liftReturned_acts i _))
    (raiseLaneFault_acts _ i _ _ s)

theorem interruptGive_acts (i : LaneId) (h : LiftHand) (s : State) : Acts i s (interruptGive i h s) :=
  ((((Acts.refl i s).append _).mod (f := fun l => l.leaveLift h) (Lane.leaveLift_keeps _ h)).remove _).trans
    (liftReturned_acts i _)

theorem interruptTransfer_acts (i : LaneId) (s : State) : Acts i s (interruptTransfer i s) := by
  simp only [interruptTransfer]
  split
  · rename_i h _ _
    have h1 := (Acts.refl i s).mod (f := fun m => m.setLiftZones h .stop) (Lane.setLiftZones_keeps _ h .stop)
    refine Acts.ite (h1.fault _ _ _) ?_
    split
    · exact h1.trans (interruptTake_acts i _ _)
    · exact h1.trans (interruptGive_acts i _ _)
  · exact .refl i s

theorem tryGo_acts (i : LaneId) (s : State) : Acts i s (tryGo i s) := by
  simp only [tryGo]
  split
  · rename_i h _ _
    refine Acts.ite (((Acts.refl i s).append _).mod ?_) (.refl i s)
    exact (Lane.setLiftZones_keeps _ h _).trans ⟨rfl, rfl, rfl, rfl, rfl, rfl, rfl, id⟩
  · exact .refl i s

theorem alignedEdge_acts (i : LaneId) (b : Bool) (s : State) : Acts i s (alignedEdge i b s) := by
  simp only [alignedEdge]
  split
  · exact ((Acts.refl i s).mod ⟨rfl, rfl, rfl, rfl, rfl, rfl, rfl, id⟩).trans (tryGo_acts i _)
  · exact Acts.ite (.refl i s) (interruptTransfer_acts i s)
  iterate 2 exact .refl i s

theorem engineOnPass_acts (i : LaneId) (g : Target) (s : State) : Acts i s (engineOnPass i g s) := by
  simp only [engineOnPass]
  split
  · split
    · exact Acts.ite (firstToteGone_acts i _ s) (takeDone_acts i _ s)
    · exact takeDone_acts i _ s
    · exact giveDone_acts i _ s
    iterate 4 exact .refl i s
  · exact .refl i s

theorem trackerEdge_acts (i : LaneId) (e : TrackEye) (b : Bool) (s : State) : Acts i s (trackerEdge i e b s) := by
  simp only [trackerEdge]
  refine Acts.ite (.refl i s) ?_
  split
  · exact raiseLaneFault_acts _ i _ _ s
  · exact ((Acts.refl i s).mod ⟨rfl, rfl, rfl, rfl, rfl, rfl, rfl, id⟩).trans (engineOnPass_acts i _ _)

theorem stallExpires_acts (i : LaneId) (s : State) : Acts i s (stallExpires i s) := by
  simp only [stallExpires]
  refine Acts.ite ?_ (.refl i s)
  split
  · have h1 := ((Acts.refl i s).raised (.ofLane .tracker i) (s.laneOccurrence .encoderLost i (s.lane i).activeToteId)).mod
      (f := fun m => { m with tracker := { m.tracker with untracked := true, stall := none } })
      ⟨rfl, rfl, rfl, rfl, rfl, rfl, rfl, id⟩
    exact Acts.ite (h1.fault _ _ _) h1
  iterate 2 exact raiseLaneFault_acts _ i _ _ s

theorem transferExpires_acts (i : LaneId) (s : State) : Acts i s (transferExpires i s) :=
  Acts.ite
    (Acts.ite (raiseLaneFault_acts _ i _ _ s)
      ((Acts.refl i s).mod (f := fun m => { m with tracker := { m.tracker with timedOut := true, transfer := none } })
        ⟨rfl, rfl, rfl, rfl, rfl, rfl, rfl, id⟩))
    (.refl i s)

theorem liftSillEdge_acts (i : LaneId) (b : Bool) (s : State) : Acts i s (liftSillEdge i b s) := by
  simp only [liftSillEdge]
  split
  · exact Acts.ite (raiseLaneFault_acts _ i _ _ s) (.refl i s)
  · exact trackerEdge_acts i _ _ s
  iterate 2 exact Acts.ite (raiseLaneFault_acts _ i _ _ s) (.refl i s)

theorem liftStopEdge_acts (i : LaneId) (k : Nat) (b : Bool) (s : State) : Acts i s (liftStopEdge i k b s) := by
  simp only [liftStopEdge]
  split
  · split
    · exact Acts.ite (raiseLaneFault_acts _ i _ _ s) (.refl i s)
    · split
      · exact Acts.ite (raiseLaneFault_acts _ i _ _ s) (.refl i s)
      · exact .refl i s
    iterate 2 exact .refl i s
  · split
    · exact trackerEdge_acts i _ _ s
    · exact .refl i s
  · exact .refl i s

theorem lapseLift_acts (i : LaneId) (r : LapseReason) (s : State) : Acts i s (lapseLift i r s) := by
  simp only [lapseLift]
  split
  · exact endReserved_acts i _ _ s
  · exact .refl i s

theorem alignWindowExpires_acts (i : LaneId) (s : State) : Acts i s (alignWindowExpires i s) := by
  simp only [alignWindowExpires]
  split
  · exact lapseLift_acts i _ s
  · exact .refl i s

theorem abortLift_acts (i : LaneId) (src : NodeId) (s : State) : Acts i s (abortLift i src s) := by
  refine Acts.ite (.refl i s) ?_
  split
  · exact endReserved_acts i _ _ s
  · exact interruptTransfer_acts i s
  · exact .refl i s

/-! ### The move, and edges no activity expects -/

theorem moveComplete_acts (i : LaneId) (m : Move) (s : State) : Acts i s (moveComplete i m s) :=
  (((Acts.refl i s).mod
    (f := fun l =>
      { ((l.mapQueue fun t => if t.state = .moving then t.seat else t).setZone m.src .stop).setZone m.dst .stop with
        move := none, moveTimer := none })
    ⟨rfl, rfl, rfl, rfl, rfl, rfl, rfl, id⟩).trans (announceSeated_acts i _ _)).trans (evalMove_acts i _)

theorem moveEdge_acts (i : LaneId) (m : Move) (k : Nat) (b : Bool) (s : State) : Acts i s (moveEdge i m k b s) :=
  Acts.ite
    (Acts.ite (Acts.ite (raiseLaneFault_acts _ i _ _ s) (.refl i s))
      ((Acts.refl i s).mod (f := fun l => { l with move := some { m with vacated := true } })
        ⟨rfl, rfl, rfl, rfl, rfl, rfl, rfl, id⟩))
    (Acts.ite (Acts.ite (moveComplete_acts i m s) (raiseLaneFault_acts _ i _ _ s)) (.refl i s))

theorem moveTimerExpires_acts (i : LaneId) (s : State) : Acts i s (moveTimerExpires i s) := by
  simp only [moveTimerExpires]
  split
  · exact raiseLaneFault_acts _ i _ _ s
  · exact .refl i s

theorem withdrawLost_acts (i : LaneId) (t : Tote) (s : State) : Acts i s (withdrawLost i t s) := by
  refine Acts.ite (.refl i s) ?_
  split
  · exact Acts.ite (withdrawLift_acts i s) (withdrawSecond_acts i s)
  · exact withdrawShuttle_acts i s

theorem lostTote_acts (i : LaneId) (t : Tote) (s : State) : Acts i s (lostTote i t s) :=
  (((((Acts.refl i s).raised _ _).remove _).trans (withdrawLost_acts i t _)).trans (emptyTest_acts i _)).trans
    (evalMove_acts i _)

theorem unexpectedStop_acts (i : LaneId) (k : Nat) (b : Bool) (s : State) : Acts i s (unexpectedStop i k b s) := by
  refine Acts.ite (.refl i s) ?_
  split
  · exact raiseLaneFault_acts _ i _ _ s
  · exact Acts.ite (lostTote_acts i _ s) (.refl i s)
  iterate 2 exact .refl i s

theorem stopEdge_acts (i : LaneId) (k : Nat) (b : Bool) (s : State) : Acts i s (stopEdge i k b s) := by
  have h : Acts i s
      (if (s.lane i).usedByShuttle k then shuttleStopEdge i b s
       else if (s.lane i).usedByLift k then liftStopEdge i k b s
       else unexpectedStop i k b s) :=
    Acts.ite (shuttleStopEdge_acts i b s) (Acts.ite (liftStopEdge_acts i k b s) (unexpectedStop_acts i k b s))
  simp only [stopEdge]
  split
  · exact Acts.ite (moveEdge_acts i _ k b s) h
  · exact h

/-- What an edge of an input can do once its debounced state has been taken (R31). -/
theorem passEdge_acts (i : LaneId) (e : InputId) (b : Bool) (s : State) : Acts i s (passEdge i e b s) := by
  refine Acts.ite (.refl i s) ?_
  split
  · exact stopEdge_acts i _ _ s
  · exact shuttleSillEdge_acts i _ s
  · exact liftSillEdge_acts i _ s
  · exact alignedEdge_acts i _ s

/-! ### The turnaround's timers -/

theorem drainExpires_acts (i : LaneId) (s : State) : Acts i s (drainExpires i s) := by
  simp only [drainExpires]
  split
  · rename_i hs _
    exact Acts.ite (endTurnaround_acts i _ s (by simp [hs])) (.refl i s)
  · exact .refl i s

theorem turnExpires_acts (i : LaneId) (s : State) : Acts i s (turnExpires i s) := by
  simp only [turnExpires]
  split
  · rename_i hs _
    exact Acts.ite (endTurnaround_acts i _ s (by simp [hs])) (.refl i s)
  · exact .refl i s

end Sys2Proof.Machine
end

