-- ==== Sys2Proof/Laws/Logging.lean ====
section
/-! SUPPORT. What the fault log can do as it takes the occurrences that were raised, said once (`Logs`): it adds to the log and to
the routine queue, may set the level hold, and leaves everything else. -/

namespace Sys2Proof.Machine

open Sys2Proof

/-- The state without what the fault log changes as it takes occurrences. -/
def State.unheard (s : State) : State :=
  { s with levelHold := false, log := .initial, bus := { s.bus with routine := [] }, unlogged := [], choices := 0 }

/-- What the fault log does as it takes occurrences. -/
structure Logs (s t : State) : Prop where
  rest : t.unheard = s.unheard
  levelHold : s.levelHold = true → t.levelHold = true
  log : s.log.Grows t.log
  routine : s.bus.routine <+: t.bus.routine
  routineRoom : s.bus.routine.length ≤ 8 → t.bus.routine.length ≤ 8

theorem Logs.refl (s : State) : Logs s s := ⟨rfl, id, .refl _, List.prefix_refl _, id⟩

theorem Logs.trans {s t u : State} (a : Logs s t) (b : Logs t u) : Logs s u :=
  ⟨b.rest.trans a.rest, fun h => b.levelHold (a.levelHold h), a.log.trans b.log, a.routine.trans b.routine,
   fun h => b.routineRoom (a.routineRoom h)⟩

theorem Logs.lane0 {s t : State} (a : Logs s t) : t.lane0 = s.lane0 := congrArg (fun x => x.lane0) a.rest

theorem Logs.lane1 {s t : State} (a : Logs s t) : t.lane1 = s.lane1 := congrArg (fun x => x.lane1) a.rest

theorem Logs.lane {s t : State} (a : Logs s t) (i : LaneId) : t.lane i = s.lane i := by
  cases i
  · exact a.lane0
  · exact a.lane1

theorem Logs.urgent {s t : State} (a : Logs s t) : t.bus.urgent = s.bus.urgent := congrArg (fun x => x.bus.urgent) a.rest

theorem Logs.groups {s t : State} (a : Logs s t) : t.groups = s.groups := congrArg (fun x => x.groups) a.rest

theorem Logs.cause {s t : State} (a : Logs s t) : t.cause = s.cause := congrArg (fun x => x.cause) a.rest

/-! ### One occurrence -/

theorem recordOccurrence_logs (o : Occurrence) (s : State) : Logs s (recordOccurrence o s) where
  rest := rfl
  levelHold h := by simp [recordOccurrence, h]
  log := recordOccurrence_log_grows o s
  routine := List.prefix_refl _
  routineRoom h := h

theorem pushRoutine_logs (f : Frame) (s : State) (h : s.routineRoom = true) : Logs s (pushRoutine f s) where
  rest := rfl
  levelHold h := h
  log := .refl _
  routine := List.prefix_append _ _
  routineRoom _ := by
    have h' : s.bus.routine.length < 8 := of_decide_eq_true h
    rw [pushRoutine_routine, List.length_append]
    exact h'

theorem dropNotice_logs (f : Frame) (s : State) : Logs s (dropNotice f s) := by
  simp only [dropNotice]
  split
  · exact (recordOccurrence_logs _ s).trans (recordOccurrence_logs _ _)
  · exact recordOccurrence_logs _ s

theorem appendNotice_logs (f : Frame) (s : State) : Logs s (appendNotice f s) := by
  simp only [appendNotice]
  split
  · exact pushRoutine_logs f s (by assumption)
  · exact dropNotice_logs f s

theorem logOccurrence_logs (o : Occurrence) (s : State) : Logs s (logOccurrence o s) := by
  simp only [logOccurrence]
  split
  · exact (recordOccurrence_logs o s).trans (appendNotice_logs _ _)
  · exact recordOccurrence_logs o s

@[simp] theorem logOccurrence_unlogged (o : Occurrence) (s : State) : (logOccurrence o s).unlogged = s.unlogged := by
  simp only [logOccurrence, appendNotice, dropNotice]
  split <;> (try split) <;> (try split) <;> rfl

/-! ### The order (R163) -/

/-- An occurrence the log may take next is one that waits, no earlier one of its block waits, and the others stay, in order. -/
theorem mem_takings {q : List Handed} : ∀ {p : Handed × List Handed}, p ∈ takings q →
    ∃ before after, q = before ++ p.1 :: after ∧ p.2 = before ++ after ∧ ∀ x ∈ before, x.block ≠ p.1.block := by
  induction q with
  | nil => intro p hp; simp [takings] at hp
  | cons h rest ih =>
    intro p hp
    simp only [takings, List.mem_cons, List.mem_map, List.mem_filter, bne_iff_ne, ne_eq] at hp
    rcases hp with rfl | ⟨x, ⟨hx, hb⟩, rfl⟩
    · exact ⟨[], rest, rfl, rfl, by simp⟩
    · obtain ⟨before, after, hq, hl, hn⟩ := ih hx
      refine ⟨h :: before, after, by simp [hq], by simp [hl], fun y hy => ?_⟩
      rcases List.mem_cons.mp hy with rfl | hy
      · exact fun he => hb he.symm
      · exact hn y hy

/-- One occurrence is taken, the earliest of its block that waits. -/
theorem logNext_takes (s : State) (h : s.unlogged ≠ []) :
    ∃ before x after c, s.unlogged = before ++ x :: after ∧ (∀ y ∈ before, y.block ≠ x.block)
      ∧ logNext s = logOccurrence x.occurrence { s with unlogged := before ++ after, choices := c } := by
  have key : ∀ p ∈ takings s.unlogged, ∀ c, ∃ before x after c', s.unlogged = before ++ x :: after
      ∧ (∀ y ∈ before, y.block ≠ x.block)
      ∧ logOccurrence p.1.occurrence { s with unlogged := p.2, choices := c }
          = logOccurrence x.occurrence { s with unlogged := before ++ after, choices := c' } := by
    intro p hp c
    obtain ⟨before, after, hq, hl, hn⟩ := mem_takings hp
    exact ⟨before, p.1, after, c, hq, hn, by rw [hl]⟩
  simp only [logNext]
  split
  · rename_i ht
    cases hu : s.unlogged with
    | nil => exact absurd hu h
    | cons a l => rw [hu] at ht; simp [takings] at ht
  · rename_i p ht
    exact key p (by simp [ht]) s.choices
  · rename_i p q rest ht
    refine key _ ?_ (s.choices + 1)
    have hk : freeChoice s.choices % (rest.length + 2) < (p :: q :: rest).length := Nat.mod_lt _ (by simp)
    rw [ht, List.getD_eq_getElem?_getD, List.getElem?_eq_getElem hk]
    exact List.getElem_mem hk

theorem logNext_of_none {s : State} (h : s.unlogged = []) : logNext s = s := by simp [logNext, h, takings]

theorem logNext_logs (s : State) : Logs s (logNext s) := by
  by_cases h : s.unlogged = []
  · rw [logNext_of_none h]; exact .refl s
  · obtain ⟨before, x, after, c, -, -, he⟩ := logNext_takes s h
    have h1 : Logs s { s with unlogged := before ++ after, choices := c } :=
      ⟨rfl, id, .refl _, List.prefix_refl _, id⟩
    rw [he]
    exact h1.trans (logOccurrence_logs _ _)

theorem logNext_length (s : State) : (logNext s).unlogged.length = s.unlogged.length - 1 := by
  by_cases h : s.unlogged = []
  · simp [logNext_of_none h, h]
  · obtain ⟨before, x, after, c, hq, -, he⟩ := logNext_takes s h
    simp [he, hq]

/-! ### Many occurrences -/

theorem logWhile_logs (test : State → Bool) (fuel : Nat) : ∀ s : State, Logs s (logWhile test fuel s) := by
  induction fuel with
  | zero => exact fun s => .refl s
  | succ fuel ih =>
    intro s
    simp only [logWhile]
    split
    · exact (logNext_logs s).trans (ih _)
    · exact .refl s

theorem logAll_logs (s : State) : Logs s (logAll s) := logWhile_logs _ _ s

theorem logEscalations_logs (s : State) : Logs s (logEscalations s) := logWhile_logs _ _ s

/-- No occurrence still waits once the log has taken all. -/
@[simp] theorem logAll_unlogged (s : State) : (logAll s).unlogged = [] := by
  have key (fuel : Nat) : ∀ s : State, s.unlogged.length = fuel → (logWhile (fun _ => true) fuel s).unlogged = [] := by
    induction fuel with
    | zero => exact fun s h => List.length_eq_zero_iff.mp h
    | succ fuel ih => exact fun s h => ih _ (by rw [logNext_length, h]; rfl)
  exact key _ s rfl

@[simp] theorem logAll_of_none {s : State} (h : s.unlogged = []) : logAll s = s := by simp [logAll, h, logWhile]

@[simp] theorem logEscalations_of_none {s : State} (h : s.unlogged = []) : logEscalations s = s := by
  simp [logEscalations, h, logWhile]

/-- Once the escalations are handed over, none waits (R163 step 4). -/
theorem logEscalations_done (s : State) : (logEscalations s).escalationWaits = false := by
  have key (fuel : Nat) : ∀ s : State, s.unlogged.length = fuel →
      (logWhile State.escalationWaits fuel s).escalationWaits = false := by
    induction fuel with
    | zero =>
      intro s h
      have h' : s.unlogged = [] := List.length_eq_zero_iff.mp h
      simp [logWhile, State.escalationWaits, h']
    | succ fuel ih =>
      intro s h
      simp only [logWhile]
      split
      · exact ih _ (by rw [logNext_length, h]; rfl)
      · simp_all
  exact key _ s rfl

end Sys2Proof.Machine
end

