-- ==== Sys2Proof/Laws/Closing.lean ====
section
/-! SUPPORT. What closes a command: on a settled state it does nothing, and on any state it only adds. Taking a frame from the
receive queue. -/

namespace Sys2Proof.Machine

open Sys2Proof

/-! ### A settled state is left as it is -/

/-- Where no effective hold is stale, there is nothing to announce. -/
theorem holdsDue_of_fresh (s : State) (h : ∀ i, s.holdStale i = false) : s.holdsDue = [] := by
  simp [State.holdsDue, bothLanes, h]

theorem refreshHolds_of_fresh (s : State) (h : ∀ i, s.holdStale i = false) : s.refreshHolds = s := by
  have h0 : (s.holdNow .lane0) = s.lane0.effHold := by simpa [State.holdStale, State.lane] using h .lane0
  have h1 : (s.holdNow .lane1) = s.lane1.effHold := by simpa [State.holdStale, State.lane] using h .lane1
  simp [State.refreshHolds, h0, h1]

/-- With nothing raised and no effective hold stale, no hold joins the announcements. -/
theorem holdsJoin_of_settled (actions : List (State → State)) (s : State) (hu : s.unlogged = [])
    (hh : ∀ i, s.holdStale i = false) : holdsJoin actions s = inEitherOrder actions s := by
  simp [holdsJoin, hu, holdsDue_of_fresh s hh, refreshHolds_of_fresh s hh]

theorem Lane.settleDrive_of_eq (l : Lane) (h : l.sensing.commanded = l.driven) : l.settleDrive = l := by
  simp [Lane.settleDrive, h]

/-- With nothing raised and no effective hold stale, the holds are settled. -/
theorem settleHolds_of_settled (s : State) (hu : s.unlogged = []) (hh : ∀ i, s.holdStale i = false) :
    settleHolds s = s := by
  simp [settleHolds, hu, holdsDue_of_fresh s hh, refreshHolds_of_fresh s hh, announce, takeUntilHold,
    holdsJoin_of_settled, hh, inEitherOrder, runFreely]

/-- A command that raises nothing and whose change leaves holds and drives settled ends with the frame in hand put away, and
nothing more. -/
theorem finish_of_settled (s : State) (hu : s.unlogged = []) (hh : ∀ i, s.holdStale i = false)
    (hd : ∀ i, (s.lane i).sensing.commanded = (s.lane i).driven) : finish s = { s with cause := none } := by
  have h0 : s.lane0.settleDrive = s.lane0 := Lane.settleDrive_of_eq _ (hd .lane0)
  have h1 : s.lane1.settleDrive = s.lane1 := Lane.settleDrive_of_eq _ (hd .lane1)
  simp [finish, settleHolds_of_settled s hu hh, hu, State.settleDrives, h0, h1]

theorem State.Quiet.holdStale {s : State} (h : s.Quiet) (i : LaneId) : s.holdStale i = false := by
  simp [State.holdStale, State.holdNow, State.aisleHold, h.2.2.1 i, Bool.or_assoc]

theorem finish_of_quiet (s : State) (h : s.Quiet) : finish s = s := by
  rw [finish_of_settled s h.2.1 h.holdStale h.2.2.2, ← h.1]

/-! ### What the closing of a command can add -/

/-- What a lane keeps through the closing of a command. -/
structure Lane.Stays (l m : Lane) : Prop where
  kind : m.kind = l.kind
  n : m.n = l.n
  encA : m.encA = l.encA
  encB : m.encB = l.encB
  inputs : m.sensing.inputs = l.sensing.inputs
  laneHold : m.laneHold = l.laneHold
  faulted : l.state = .faulted → m.state = .faulted

/-- What happens when several lanes may act: each lane stays what it is, frames and log entries are only added. -/
structure Adds (s t : State) : Prop where
  world : t.world = s.world
  lanes : ∀ i, (s.lane i).Stays (t.lane i)
  groups : t.groups.Sublist s.groups
  levelHold : s.levelHold = true → t.levelHold = true
  log : s.log.Grows t.log
  urgent : s.bus.urgent <+: t.bus.urgent
  routine : s.bus.routine <+: t.bus.routine
  urgentRoom : s.bus.urgent.length ≤ 8 → t.bus.urgent.length ≤ 8
  routineRoom : s.bus.routine.length ≤ 8 → t.bus.routine.length ≤ 8

theorem Lane.Stays.refl (l : Lane) : l.Stays l := ⟨rfl, rfl, rfl, rfl, rfl, rfl, id⟩

theorem Lane.Stays.trans {l m k : Lane} (a : l.Stays m) (b : m.Stays k) : l.Stays k :=
  ⟨b.kind.trans a.kind, b.n.trans a.n, b.encA.trans a.encA, b.encB.trans a.encB, b.inputs.trans a.inputs,
   b.laneHold.trans a.laneHold, fun h => b.faulted (a.faulted h)⟩

theorem Lane.Keeps.stays {l m : Lane} (a : l.Keeps m) : l.Stays m :=
  ⟨a.kind, a.n, a.encA, a.encB, by rw [a.sensing], a.laneHold, a.faulted⟩

theorem Adds.refl (s : State) : Adds s s :=
  ⟨rfl, fun _ => .refl _, List.Sublist.refl _, id, .refl _, List.prefix_refl _, List.prefix_refl _, id, id⟩

theorem Adds.trans {s t u : State} (a : Adds s t) (b : Adds t u) : Adds s u :=
  ⟨b.world.trans a.world, fun i => (a.lanes i).trans (b.lanes i), b.groups.trans a.groups,
   fun h => b.levelHold (a.levelHold h), a.log.trans b.log, a.urgent.trans b.urgent, a.routine.trans b.routine,
   fun h => b.urgentRoom (a.urgentRoom h), fun h => b.routineRoom (a.routineRoom h)⟩

theorem Acts.adds {i : LaneId} {s t : State} (a : Acts i s t) : Adds s t where
  world := a.world
  lanes j := by
    rcases lane_eq_or_other i j with rfl | rfl
    · exact a.own.stays
    · rw [a.other]; exact .refl _
  groups := a.groups
  levelHold h := by rw [a.levelHold, h]
  log := by rw [a.log]; exact .refl _
  urgent := a.urgent
  routine := a.routine
  urgentRoom := a.urgentRoom
  routineRoom := a.routineRoom

theorem Logs.adds {s t : State} (a : Logs s t) : Adds s t where
  world := congrArg (fun x => x.world) a.rest
  lanes i := by rw [a.lane]; exact .refl _
  groups := a.groups ▸ List.Sublist.refl _
  levelHold := a.levelHold
  log := a.log
  urgent := a.urgent ▸ List.prefix_refl _
  routine := a.routine
  urgentRoom h := by rw [a.urgent]; exact h
  routineRoom := a.routineRoom

theorem Carried.adds {actions : List (State → State)} (h : ∀ f ∈ actions, ∀ t, Adds t (f t)) : Carried Adds actions :=
  ⟨.refl, Adds.trans, fun s c => (choices_acts .lane0 c s).adds, h⟩

theorem inEitherOrder_adds (actions : List (State → State)) (s : State) (h : ∀ f ∈ actions, ∀ t, Adds t (f t)) :
    Adds s (inEitherOrder actions s) := (Carried.adds h).keeps _ s

/-! ### The effective hold announced -/

theorem shuttleHoldSets_acts (i : LaneId) (s : State) : Acts i s (shuttleHoldSets i s) := by
  simp only [shuttleHoldSets]
  split
  · exact (withdrawShuttle_acts i s).mod ⟨rfl, rfl, rfl, rfl, rfl, rfl, rfl, id⟩
  · exact lapseShuttle_acts i _ s
  iterate 2 exact .refl i s

theorem liftHoldSets_acts (i : LaneId) (s : State) : Acts i s (liftHoldSets i s) := by
  simp only [liftHoldSets]
  split
  · exact (withdrawLift_acts i s).mod ⟨rfl, rfl, rfl, rfl, rfl, rfl, rfl, id⟩
  · split
    · exact (lapseLift_acts i _ s).mod ⟨rfl, rfl, rfl, rfl, rfl, rfl, rfl, id⟩
    · exact lapseLift_acts i _ s
  · exact .refl i s

theorem turnHoldSets_acts (i : LaneId) (s : State) : Acts i s (turnHoldSets i s) := by
  simp only [turnHoldSets]
  split
  iterate 2 exact endTurnaround_acts i _ s (by simp_all)
  iterate 3 exact .refl i s

theorem shuttleHoldClears_acts (i : LaneId) (s : State) : Acts i s (shuttleHoldClears i s) :=
  Acts.ite (((Acts.refl i s).mod (f := fun l => { l with sLatch := false })
    ⟨rfl, rfl, rfl, rfl, rfl, rfl, rfl, id⟩).trans (evalShuttle_acts i _)) (.refl i s)

theorem liftHoldClears_acts (i : LaneId) (s : State) : Acts i s (liftHoldClears i s) :=
  Acts.ite (((Acts.refl i s).mod (f := fun l => { l with lLatch := false })
    ⟨rfl, rfl, rfl, rfl, rfl, rfl, rfl, id⟩).trans (evalLift_acts i _)) (.refl i s)

theorem holdActions_acts (s : State) (i : LaneId) : ∀ f ∈ holdActions s i, ∀ t, Acts i t (f t) := by
  intro f hf t
  simp only [holdActions] at hf
  split at hf
  · simp at hf
  · split at hf
    all_goals
      simp only [holdSetActions, holdClearActions, List.mem_append] at hf
      rcases hf with (hf | hf) | hf
    all_goals
      split at hf
      · simp only [List.mem_singleton] at hf
        subst hf
        first
        | exact shuttleHoldSets_acts i t
        | exact liftHoldSets_acts i t
        | exact turnHoldSets_acts i t
        | exact shuttleHoldClears_acts i t
        | exact liftHoldClears_acts i t
        | exact evalMove_acts i t
      · simp at hf

theorem refreshHolds_adds (s : State) : Adds s s.refreshHolds where
  world := rfl
  lanes i := by cases i <;> exact ⟨rfl, rfl, rfl, rfl, rfl, rfl, id⟩
  groups := List.Sublist.refl _
  levelHold h := h
  log := .refl _
  urgent := List.prefix_refl _
  routine := List.prefix_refl _
  urgentRoom h := h
  routineRoom h := h

theorem holdsDue_adds (s : State) : ∀ f ∈ s.holdsDue, ∀ t, Adds t (f t) := by
  intro f hf t
  obtain ⟨i, _, hi⟩ := List.mem_flatMap.mp hf
  exact (holdActions_acts s i f hi t).adds

theorem holdsJoin_adds (actions : List (State → State)) (s : State) (h : ∀ f ∈ actions, ∀ t, Adds t (f t)) :
    Adds s (holdsJoin actions s) := by
  refine ((logEscalations_logs s).adds.trans (refreshHolds_adds _)).trans (inEitherOrder_adds _ _ fun f hf => ?_)
  rcases List.mem_append.mp hf with hf | hf
  · exact h f hf
  · exact holdsDue_adds _ f hf

/-- What is taken up to a hold adds, and what is left are actions of the list. -/
theorem takeUntilHold_adds (fuel : Nat) : ∀ (actions : List (State → State)) (s : State),
    (∀ f ∈ actions, ∀ t, Adds t (f t)) →
      Adds s (takeUntilHold fuel actions s).2 ∧ ∀ f ∈ (takeUntilHold fuel actions s).1, ∀ t, Adds t (f t) := by
  induction fuel with
  | zero => exact fun actions s h => ⟨.refl s, h⟩
  | succ fuel ih =>
    intro actions s h
    have one (t : State) : Adds t (takeUntilHold fuel (takeOne actions t).1 (takeOne actions t).2).2
        ∧ ∀ f ∈ (takeUntilHold fuel (takeOne actions t).1 (takeOne actions t).2).1, ∀ u, Adds u (f u) := by
      have h1 := (Carried.adds h).keepsOne t
      have h2 := ih _ (takeOne actions t).2 h1.2.action
      exact ⟨h1.1.trans h2.1, h2.2⟩
    simp only [takeUntilHold]
    split
    · split
      · exact ⟨(choices_acts .lane0 _ s).adds, h⟩
      · exact ⟨(choices_acts .lane0 _ s).adds.trans (one _).1, (one _).2⟩
    · exact one s

/-- All are taken, unless an escalation waits (R157). -/
theorem takeUntilHold_rest (fuel : Nat) : ∀ (actions : List (State → State)) (s : State), actions.length ≤ fuel →
    (takeUntilHold fuel actions s).1 = [] ∨ (takeUntilHold fuel actions s).2.escalationWaits = true := by
  induction fuel with
  | zero => exact fun actions s h => .inl (List.length_eq_zero_iff.mp (Nat.le_zero.mp h))
  | succ fuel ih =>
    intro actions s h
    have one (t : State) := ih (takeOne actions t).1 (takeOne actions t).2
      (by rw [(takeOne_takes actions t).2.1]; omega)
    simp only [takeUntilHold]
    split
    · split
      · exact .inr (by assumption)
      · exact one _
    · exact one s

/-- What announcements add, taking them adds, with the hold that they may bring. -/
theorem announce_adds (actions : List (State → State)) (s : State) (h : ∀ f ∈ actions, ∀ t, Adds t (f t)) :
    Adds s (announce actions s) :=
  have a := takeUntilHold_adds actions.length actions s h
  a.1.trans (holdsJoin_adds _ _ a.2)

/-! ### The whole closing -/

theorem Lane.settleDrive_stays (l : Lane) : l.Stays l.settleDrive := by
  simp only [Lane.settleDrive]
  split <;> exact ⟨rfl, rfl, rfl, rfl, rfl, rfl, id⟩

theorem settleDrives_adds (s : State) : Adds s s.settleDrives where
  world := rfl
  lanes i := by cases i <;> exact Lane.settleDrive_stays _
  groups := List.Sublist.refl _
  levelHold h := h
  log := .refl _
  urgent := List.prefix_refl _
  routine := List.prefix_refl _
  urgentRoom h := h
  routineRoom h := h

theorem settleHolds_adds (s : State) : Adds s (settleHolds s) :=
  ((logEscalations_logs s).adds.trans (refreshHolds_adds _)).trans (announce_adds _ _ (holdsDue_adds _))

/-- The state before the frame in hand is put away. -/
theorem finish_eq (s : State) : finish s = { (logAll (settleHolds s)).settleDrives with cause := none } := rfl

/-- What the closing of a command can do: it only adds, and puts the frame in hand away. -/
theorem finish_adds (s : State) : Adds s (logAll (settleHolds s)).settleDrives :=
  ((settleHolds_adds s).trans (logAll_logs _).adds).trans (settleDrives_adds _)

/-- Every occurrence a command raised is in the log as it ends. -/
@[simp] theorem finish_unlogged (s : State) : (finish s).unlogged = [] := by
  simp only [finish, State.settleDrives, logAll_unlogged]

/-! ### Taking a frame from the receive queue (R182) -/

/-- The owner takes the frame at the head, and the command is its reaction, closed. -/
theorem withFrame_taken {k : FrameKind} {s : State} {f : Frame} {rest : List Frame} (act : Frame → State → State)
    (h : s.TakesHead (kindCode k) f rest) :
    withFrame k act s =
      .next (finish (act f { s with bus := { s.bus with received := rest }, cause := some f.ref })) := by
  obtain ⟨hn, hr, hc⟩ := h
  have ha : s.active = true := by rcases hn with hn | hn <;> simp [State.active, hn]
  simp [withFrame, ha, hr, hc]

/-- Where the head is no frame of the kind, nothing changes (log entry 2). -/
theorem withFrame_other {k : FrameKind} {s : State} {f : Frame} {rest : List Frame} (act : Frame → State → State)
    (hr : s.bus.received = f :: rest) (hc : f.code ≠ kindCode k) : withFrame k act s = .next s := by
  simp only [withFrame, hr]
  split
  · rename_i heq
    obtain ⟨rfl, rfl⟩ := List.cons.inj heq
    rw [if_neg hc]
  · rfl

/-- With no frame waiting, nothing changes (log entry 2). -/
theorem withFrame_empty {k : FrameKind} {s : State} (act : Frame → State → State) (hr : s.bus.received = []) :
    withFrame k act s = .next s := by simp [withFrame, hr]

end Sys2Proof.Machine
end

