-- ==== Sys2Proof/Laws/Wire.lean ====
section
/-! SUPPORT. The frames the 3240 sends, equal to their bytes as R184 gives them, and the reading of a frame's fields. -/

namespace Sys2Proof.Machine

open Sys2Proof

/-! ### Node ids and fields -/

theorem State.ownId_eq_wire (s : State) : s.ownId = s.wireSource := by
  apply BitVec.eq_of_toNat_eq
  simp [State.ownId, State.wireSource]

theorem State.shuttleId_eq_wire (s : State) : s.shuttleId = s.shuttleNode := by
  apply BitVec.eq_of_toNat_eq
  simp [State.shuttleId, State.shuttleNode]

theorem State.levelByte_eq_wire (s : State) : s.levelByte = s.wireLevel := by
  apply BitVec.eq_of_toNat_eq
  simp [State.levelByte, State.wireLevel]

theorem liftId_eq_wire (i : LaneId) : liftId i = liftNode i := by cases i <;> rfl

theorem toteBytes_eq_wire (t : Option ToteId) : toteBytes t = wireId t := by
  cases t <;> rfl

theorem laneEndByte_eq_wire (i : LaneId) (e : LaneEnd) : laneEndByte i e = wireLane i + wireEnd e := by
  cases i <;> cases e <;> decide

theorem laneByte_eq_wire (i : LaneId) : laneByte i = wireLane i := by cases i <;> decide

theorem endClass_eq_wire (e : LaneEnd) : endClass e = if e = .liftEnd then 1 else 2 := by cases e <;> rfl

theorem dirCode_eq_wire (d : Dir) : dirCode d = wireDir d := by cases d <;> rfl

/-! ### Frames -/

theorem replyFrame_eq_wire (s : State) (i : LaneId) (e : LaneEnd) (k : FrameKind) (v : Verdict) (count : Nat)
    (id : Option ToteId) :
    s.replyFrame i e k v count id =
      wireReply s i e ((kindCode k).setWidth 8) (verdictCode v) (BitVec.ofNat 8 count) id := by
  simp [State.replyFrame, State.frame, wireReply, State.ownId_eq_wire, State.levelByte_eq_wire, laneEndByte_eq_wire,
    endClass_eq_wire, toteBytes_eq_wire, kindCode]

theorem withdrawFrame_eq_wire (s : State) (i : LaneId) (e : LaneEnd) (slot : Slot) (id : Option ToteId) :
    s.withdrawFrame i e slot id = wireWithdraw s i e (if slot = .head then 0 else 1) id := by
  cases slot <;> cases i <;> cases e <;>
    simp [State.withdrawFrame, State.frame, wireWithdraw, State.ownId_eq_wire, State.levelByte_eq_wire, wireLane,
      wireEnd, laneEndByte, laneBit, flagAt, endClass, toteBytes_eq_wire, kindCode]

theorem goFrame_eq_wire (s : State) (i : LaneId) (k : Transfer) (count : Nat) :
    s.goFrame i k count = wireGo s i (if k = .take then 0 else 1) (BitVec.ofNat 8 count) := by
  simp [State.goFrame, State.frame, wireGo, State.ownId_eq_wire, State.levelByte_eq_wire, laneByte_eq_wire, kindCode]

theorem turnedFrame_eq_wire (s : State) (i : LaneId) (d : Dir) (o : TurnOutcome) :
    s.turnedFrame i d o = wireTurned s i d (turnCode o) := by
  simp [State.turnedFrame, State.frame, wireTurned, State.ownId_eq_wire, State.levelByte_eq_wire, laneByte_eq_wire,
    dirCode_eq_wire, kindCode]

theorem proposeFrame_eq_wire (s : State) (i : LaneId) (d : Dir) : s.proposeFrame i d = wirePropose s i d := by
  simp [State.proposeFrame, State.frame, wirePropose, State.ownId_eq_wire, State.levelByte_eq_wire, laneByte_eq_wire,
    dirCode_eq_wire, kindCode]

theorem reportFrame_eq_wire (s : State) (p : List Byte) : s.frame 5 .faultReport p = wireReport s p := by
  simp [State.frame, wireReport, State.ownId_eq_wire, kindCode]

/-- R184: the seq/length word of an OFFER, most significant byte first. -/
theorem seqWord_eq_wire (q : Seq) (l : LenClass) :
    wordBytes (q.setWidth 16 ||| if l = .long then 0x8000 else 0) =
      [BitVec.ofNat 8 (q.toNat / 256 + if l = .long then 128 else 0), BitVec.ofNat 8 (q.toNat % 256)] := by
  have hq := q.isLt
  have hor : q.toNat ||| 32768 = q.toNat + 32768 := by
    rw [Nat.or_comm, show (32768 : Nat) = 2 ^ 15 * 1 from rfl, ← Nat.two_pow_add_eq_or_of_lt (by omega)]; omega
  cases l <;>
    simp [wordBytes, ← BitVec.toNat_inj, Nat.shiftRight_eq_div_pow, Nat.mod_eq_of_lt (show q.toNat < 65536 by omega), hor]
  all_goals omega

/-- R184: byte 1 of an OFFER. -/
theorem offerByte_eq_wire (i : LaneId) (e : LaneEnd) (slot : Slot) (late : Bool) :
    laneEndByte i e ||| flagAt (slot == .second) 2 ||| flagAt late 3 =
      wireLane i + wireEnd e + 4 * (if slot = .head then 0 else 1) + (if late then 8 else 0) := by
  cases slot <;> cases i <;> cases e <;> cases late <;> decide

theorem offerFrame_eq_wire (s : State) (i : LaneId) (e : LaneEnd) (slot : Slot) (late : Bool) (r : Tote) :
    s.offerFrame i e slot late r = wireOffer s i e (if slot = .head then 0 else 1) late r := by
  simp only [State.offerFrame, State.frame, wireOffer, State.ownId_eq_wire, State.levelByte_eq_wire, offerByte_eq_wire,
    endClass_eq_wire, toteBytes_eq_wire, kindCode]
  cases r.kind <;> simp only [seqWord_eq_wire, List.append_assoc]
  all_goals first | rfl | (cases r.len <;> rfl)

/-- R184: the class byte of a FAULT NOTICE. -/
theorem faultClassCode_eq_wire (k : FaultKind) :
    faultClassCode (faultClass k) =
      if (faultIndex k).val + 1 ≤ 13 then 0 else if (faultIndex k).val + 1 ≤ 24 then 1 else 2 := by
  cases k <;> decide

theorem noticeFrame_eq_wire (s : State) (o : Occurrence) : s.noticeFrame o = wireNotice s o := by
  have h : laneCode o.lane = (match o.lane with | some .lane0 => 0 | some .lane1 => 1 | none => 255) := by
    rcases o.lane with _ | i
    · rfl
    · cases i <;> rfl
  simp only [State.noticeFrame, State.frame, wireNotice, State.ownId_eq_wire, toteBytes_eq_wire, kindCode,
    faultClassCode_eq_wire, faultNumber, h] <;> rfl

/-- R65, R90: an END frame, byte 3 the reason of a LAPSED and otherwise the count. -/
theorem endFrame_eq_wire (s : State) (i : LaneId) (e : LaneEnd) (o : Ending) (count : Nat) (id1 id2 : Option ToteId) :
    s.endFrame i e o count id1 id2 =
      wireEnded s i e (endingCode o)
        (match o with
         | .lapsed r => lapseCode r
         | .done | .aborted | .stranded | .faulted => BitVec.ofNat 8 count) id1 id2 := by
  cases o <;>
    simp [State.endFrame, State.frame, wireEnded, State.ownId_eq_wire, State.levelByte_eq_wire, laneEndByte_eq_wire,
      endClass_eq_wire, toteBytes_eq_wire, kindCode]

/-! ### Sequence arithmetic -/

/-- R44: the forward distance as plain arithmetic. -/
theorem forwardDist_eq_distance (x y : Seq) : forwardDist x y = distance x y := by
  simp only [forwardDist, distance, BitVec.toNat_sub]
  have := x.isLt
  have := y.isLt
  omega

theorem forwardDist_lt (x y : Seq) : forwardDist x y < 4096 := (y - x).isLt

/-! ### The tables written out again -/

theorem mayLeave_eq_eligible (r : Tote) : mayLeave r = r.eligible := by
  cases h : r.cls with
  | none => simp [mayLeave, Tote.eligible, h]
  | some c => cases c <;> simp [mayLeave, Tote.eligible, eligibleClass, h]

theorem wantAt_eq_expected (c : LaneSettings) (t : Tracker) (j : TrackJob) (g : Target) :
    wantAt c t j g = t.expected c j g := by
  have h : lengthAt c = lenCounts c := by funext k; cases k <;> rfl
  cases g <;> simp [wantAt, Tracker.expected, Tracker.off1, Tracker.off2, h]

theorem tolAt_eq_tol (c : LaneSettings) (g : Target) : tolAt c g = targetTol c g := by
  cases g <;> simp [tolAt, targetTol]

theorem blocksAt_eq_isBlock (g : Target) : blocksAt g = g.isBlock := by cases g <;> rfl

theorem measureAt_eq_measure (t : Tracker) (j : TrackJob) : measureAt j t.count = t.measure j := by
  cases h : j.kind <;> simp [measureAt, Tracker.measure, h]

theorem finalTarget_eq_lastTarget (j : TrackJob) : finalTarget j = j.lastTarget := by
  cases h : j.kind <;> cases h2 : j.len2 <;> simp [finalTarget, TrackJob.lastTarget, h, h2]

/-- R116: within a job's list the two ways to name the next target agree. -/
theorem followingTarget_eq_targetAfter (j : TrackJob) (g : Target) (hg : inList j g = true) :
    followingTarget j g = targetAfter g j.targets := by
  cases h : j.kind <;> cases h2 : j.len2 <;> cases g <;>
    simp_all [inList, followingTarget, TrackJob.targets, targetAfter]

/-- R123: the zone of RUNOUT. -/
theorem runsOut_iff_inRunout (c : LaneSettings) (t : Tracker) (j : TrackJob) :
    runsOut c t j (t.measure j) ↔ t.inRunout c j = true := by
  simp [runsOut, Tracker.inRunout, wantAt_eq_expected, finalTarget_eq_lastTarget]

end Sys2Proof.Machine
end

