-- ==== Sys2Proof/WellFormed.lean ====
section
/-! DEFINITION. Which commands the world can send: the checks on a command's operands. -/

namespace Sys2Proof

/-- R188: the settings memory returns 64 bytes. -/
abbrev settingsBlockWellFormed (block : List Byte) : Bool := block.length == 64

/-- R172, R173: a frame on the line begins with its start mark, one dominant bit. -/
abbrev lineWellFormed (line : List Bool) : Bool := line.head? == some false

/-- A command is well-formed when its operands are what the event it names can carry. Every other operand is
bounded by its type. -/
def wellFormed (i : Instr) : Bool :=
  match i with
  | .settingsReadDone block => settingsBlockWellFormed block
  | .frameReceived line => lineWellFormed line
  | .powerOn _ | .resetPin _ _ | .eyePinChange _ _ _ | .debounceTimerExpiry _ _ | .encoderEdge _ _
  | .currentSample _ _ | .moveTimerExpiry _ | .putWindowExpiry _ | .entryTimerExpiry _
  | .fetchWindowExpiry _ | .alignWindowExpiry _ | .stallTimerExpiry _ | .transferTimerExpiry _
  | .drainTimerExpiry _ | .turnTimerExpiry _ | .silenceTimerExpiry _ | .beaconTimerExpiry
  | .txAttemptStart | .txSent | .arbitrationLost | .txMismatch | .put | .fetch | .take | .give
  | .aligned | .abort | .turn | .answer | .groupOpen | .groupClose | .passed | .laneHold
  | .laneRelease | .aisleHold | .aisleRelease | .laneReset | .nodeReset _ | .faultClear
  | .faultQuery => true

end Sys2Proof
end

