-- ==== Sys2Proof/Laws/PerInstr.lean ====
section
/-! SUPPORT. Per-command lemmas: what it is for a command to be well-formed. -/

namespace Sys2Proof

/-- A well-formed SETTINGS_READ_DONE carries the 64 bytes of the block (R188), a well-formed FRAME_RECEIVED a line that begins
with the start mark (R172), and a well-formed command of any kind is one that is no word of the table (log entry 33). -/
def Laws.Rows.Statement (c : Instr) : Prop :=
  wellFormed c = true →
    (∀ b, c = .settingsReadDone b → b.length = 64)
      ∧ (∀ l, c = .frameReceived l → ∃ bits, l = false :: bits)
      ∧ ∀ nbits w, decodeTableWord nbits w ≠ some c

theorem Laws.Rows.powerOn (p : Straps) : Laws.Rows.Statement (.powerOn p) :=
  fun _ => ⟨nofun, nofun, fun _ _ => nofun⟩

theorem Laws.Rows.resetPin (b : Bool) (p : Straps) : Laws.Rows.Statement (.resetPin b p) :=
  fun _ => ⟨nofun, nofun, fun _ _ => nofun⟩

theorem Laws.Rows.settingsReadDone (b : List Byte) : Laws.Rows.Statement (.settingsReadDone b) :=
  fun h => ⟨fun _ he => by cases he; exact beq_iff_eq.mp h, fun _ he => (nomatch he), fun _ _ => nofun⟩

theorem Laws.Rows.eyePinChange (i : LaneId) (e : InputId) (b : Bool) : Laws.Rows.Statement (.eyePinChange i e b) :=
  fun _ => ⟨nofun, nofun, fun _ _ => nofun⟩

theorem Laws.Rows.debounceTimerExpiry (i : LaneId) (e : InputId) : Laws.Rows.Statement (.debounceTimerExpiry i e) :=
  fun _ => ⟨nofun, nofun, fun _ _ => nofun⟩

theorem Laws.Rows.encoderEdge (i : LaneId) (e : EncInput) : Laws.Rows.Statement (.encoderEdge i e) :=
  fun _ => ⟨nofun, nofun, fun _ _ => nofun⟩

theorem Laws.Rows.currentSample (i : LaneId) (v : BitVec 12) : Laws.Rows.Statement (.currentSample i v) :=
  fun _ => ⟨nofun, nofun, fun _ _ => nofun⟩

theorem Laws.Rows.moveTimerExpiry (i : LaneId) : Laws.Rows.Statement (.moveTimerExpiry i) :=
  fun _ => ⟨nofun, nofun, fun _ _ => nofun⟩

theorem Laws.Rows.putWindowExpiry (i : LaneId) : Laws.Rows.Statement (.putWindowExpiry i) :=
  fun _ => ⟨nofun, nofun, fun _ _ => nofun⟩

theorem Laws.Rows.entryTimerExpiry (i : LaneId) : Laws.Rows.Statement (.entryTimerExpiry i) :=
  fun _ => ⟨nofun, nofun, fun _ _ => nofun⟩

theorem Laws.Rows.fetchWindowExpiry (i : LaneId) : Laws.Rows.Statement (.fetchWindowExpiry i) :=
  fun _ => ⟨nofun, nofun, fun _ _ => nofun⟩

theorem Laws.Rows.alignWindowExpiry (i : LaneId) : Laws.Rows.Statement (.alignWindowExpiry i) :=
  fun _ => ⟨nofun, nofun, fun _ _ => nofun⟩

theorem Laws.Rows.stallTimerExpiry (i : LaneId) : Laws.Rows.Statement (.stallTimerExpiry i) :=
  fun _ => ⟨nofun, nofun, fun _ _ => nofun⟩

theorem Laws.Rows.transferTimerExpiry (i : LaneId) : Laws.Rows.Statement (.transferTimerExpiry i) :=
  fun _ => ⟨nofun, nofun, fun _ _ => nofun⟩

theorem Laws.Rows.drainTimerExpiry (i : LaneId) : Laws.Rows.Statement (.drainTimerExpiry i) :=
  fun _ => ⟨nofun, nofun, fun _ _ => nofun⟩

theorem Laws.Rows.turnTimerExpiry (i : LaneId) : Laws.Rows.Statement (.turnTimerExpiry i) :=
  fun _ => ⟨nofun, nofun, fun _ _ => nofun⟩

theorem Laws.Rows.silenceTimerExpiry (p : PeerId) : Laws.Rows.Statement (.silenceTimerExpiry p) :=
  fun _ => ⟨nofun, nofun, fun _ _ => nofun⟩

theorem Laws.Rows.beaconTimerExpiry : Laws.Rows.Statement .beaconTimerExpiry :=
  fun _ => ⟨nofun, nofun, fun _ _ => nofun⟩

theorem Laws.Rows.txAttemptStart : Laws.Rows.Statement .txAttemptStart :=
  fun _ => ⟨nofun, nofun, fun _ _ => nofun⟩

theorem Laws.Rows.txSent : Laws.Rows.Statement .txSent :=
  fun _ => ⟨nofun, nofun, fun _ _ => nofun⟩

theorem Laws.Rows.arbitrationLost : Laws.Rows.Statement .arbitrationLost :=
  fun _ => ⟨nofun, nofun, fun _ _ => nofun⟩

theorem Laws.Rows.txMismatch : Laws.Rows.Statement .txMismatch :=
  fun _ => ⟨nofun, nofun, fun _ _ => nofun⟩

theorem Laws.Rows.frameReceived (l : List Bool) : Laws.Rows.Statement (.frameReceived l) :=
  fun h => ⟨fun _ he => (nomatch he),
    fun k he => by
      cases he
      match l, h with
      | false :: bits, _ => exact ⟨bits, rfl⟩,
    fun _ _ => nofun⟩

theorem Laws.Rows.put : Laws.Rows.Statement .put :=
  fun _ => ⟨nofun, nofun, fun _ _ => nofun⟩

theorem Laws.Rows.fetch : Laws.Rows.Statement .fetch :=
  fun _ => ⟨nofun, nofun, fun _ _ => nofun⟩

theorem Laws.Rows.take : Laws.Rows.Statement .take :=
  fun _ => ⟨nofun, nofun, fun _ _ => nofun⟩

theorem Laws.Rows.give : Laws.Rows.Statement .give :=
  fun _ => ⟨nofun, nofun, fun _ _ => nofun⟩

theorem Laws.Rows.aligned : Laws.Rows.Statement .aligned :=
  fun _ => ⟨nofun, nofun, fun _ _ => nofun⟩

theorem Laws.Rows.abort : Laws.Rows.Statement .abort :=
  fun _ => ⟨nofun, nofun, fun _ _ => nofun⟩

theorem Laws.Rows.turn : Laws.Rows.Statement .turn :=
  fun _ => ⟨nofun, nofun, fun _ _ => nofun⟩

theorem Laws.Rows.answer : Laws.Rows.Statement .answer :=
  fun _ => ⟨nofun, nofun, fun _ _ => nofun⟩

theorem Laws.Rows.groupOpen : Laws.Rows.Statement .groupOpen :=
  fun _ => ⟨nofun, nofun, fun _ _ => nofun⟩

theorem Laws.Rows.groupClose : Laws.Rows.Statement .groupClose :=
  fun _ => ⟨nofun, nofun, fun _ _ => nofun⟩

theorem Laws.Rows.passed : Laws.Rows.Statement .passed :=
  fun _ => ⟨nofun, nofun, fun _ _ => nofun⟩

theorem Laws.Rows.laneHold : Laws.Rows.Statement .laneHold :=
  fun _ => ⟨nofun, nofun, fun _ _ => nofun⟩

theorem Laws.Rows.laneRelease : Laws.Rows.Statement .laneRelease :=
  fun _ => ⟨nofun, nofun, fun _ _ => nofun⟩

theorem Laws.Rows.aisleHold : Laws.Rows.Statement .aisleHold :=
  fun _ => ⟨nofun, nofun, fun _ _ => nofun⟩

theorem Laws.Rows.aisleRelease : Laws.Rows.Statement .aisleRelease :=
  fun _ => ⟨nofun, nofun, fun _ _ => nofun⟩

theorem Laws.Rows.laneReset : Laws.Rows.Statement .laneReset :=
  fun _ => ⟨nofun, nofun, fun _ _ => nofun⟩

theorem Laws.Rows.nodeReset (p : Straps) : Laws.Rows.Statement (.nodeReset p) :=
  fun _ => ⟨nofun, nofun, fun _ _ => nofun⟩

theorem Laws.Rows.faultClear : Laws.Rows.Statement .faultClear :=
  fun _ => ⟨nofun, nofun, fun _ _ => nofun⟩

theorem Laws.Rows.faultQuery : Laws.Rows.Statement .faultQuery :=
  fun _ => ⟨nofun, nofun, fun _ _ => nofun⟩

end Sys2Proof
end

