-- ==== Sys2Proof/Tests/Slice0.lean ====
section
/-! SUPPORT. The model's own tests: the operand checks, one small step per command with its result taken from the manual, and
for each statement a state that meets its hypotheses. -/

namespace Sys2Proof.Tests

open Sys2Proof Sys2Proof.Machine

/-! ### States and frames to test on -/

/-- The inputs of a lane whose eyes are all clear, settled. -/
def clearInputs : Vector Input 7 :=
  #v[⟨true, some true, none⟩, ⟨true, some true, none⟩, ⟨true, some true, none⟩, ⟨true, some true, none⟩,
     ⟨true, some true, none⟩, ⟨true, some true, none⟩, ⟨false, some false, none⟩]

/-- An OUT lane of four positions, RUNNING, with nothing in it. -/
def outLane : Lane := { Lane.initial true with state := .running, sensing := .initial clearInputs }

/-- A reversible lane with direction IN. -/
def inLane : Lane := { outLane with kind := .reversible, dir := .inward }

/-- Level 7 RUNNING on default settings, its two lanes empty and every partner in service. -/
def up : State :=
  { State.reset with
    node := .running, straps := ⟨7, true, true, true⟩, settingsTaken := true, lane0 := outLane, lane1 := outLane
    peers := Vector.replicate 7 ⟨.present, true, some 300⟩ }

/-- A lane with its effective hold and drive condition brought up to date. -/
def brought (s : State) (i : LaneId) : Lane :=
  { s.lane i with
    effHold := (s.lane i).laneHold || s.levelHold || !s.holders.isEmpty || s.overflow
    sensing := { (s.lane i).sensing with commanded := (s.lane i).driven } }

/-- A state between commands. -/
def quiet (s : State) : State :=
  { s with lane0 := brought s .lane0, lane1 := brought s .lane1, unlogged := [], cause := none }

theorem quiet_is_quiet (s : State) : (quiet s).Quiet :=
  ⟨rfl, rfl, fun i => by cases i <;> rfl, fun i => by cases i <;> rfl⟩

/-- Level 7 with lane 0 changed. -/
def withLane0 (f : Lane → Lane) : State := quiet { up with lane0 := f outLane }

/-- A frame, its bytes as numbers. -/
def frameOf (cls src : Nat) (k : FrameKind) (p : List Nat) : Frame :=
  ⟨BitVec.ofNat 3 cls, BitVec.ofNat 7 src, kindCode k, p.map (BitVec.ofNat 8)⟩

/-- The state with a frame at the head of its receive queue. -/
def heading (f : Frame) (s : State) : State := quiet { s with bus := { s.bus with received := [f] } }

/-- The state a command leads to. -/
def nextOf (c : Instr) (s : State) : State :=
  match exec c s with
  | .next t => t
  | _ => s

/-- A record of a known LOOSE tote. -/
def toteAt (id pos : Nat) (st : ToteState) : Tote :=
  { id := some (BitVec.ofNat 32 id), kind := .loose, len := .standard, pos := pos, state := st, cls := some .loose
    advised := false }

/-- The lane with an input's pin at a level that its debounce timer has yet to take. -/
def turningTo (e : InputId) (high : Bool) (l : Lane) : Lane := l.setInput e ⟨high, some (!high), some 4⟩

/-- The lane with an eye settled BLOCKED. -/
def blockedAt (e : InputId) (l : Lane) : Lane := l.setInput e ⟨false, some false, none⟩

/-- Level 7 with an edge of an input of lane 0 to pass. -/
def edged (e : InputId) (high : Bool) (f : Lane → Lane) : State := withLane0 fun l => turningTo e high (f l)

theorem edged_edge (e : InputId) (high : Bool) (f : Lane → Lane) :
    (edged e high f).Quiet ∧ (edged e high f).node = .running ∧ ((edged e high f).lane .lane0).Edge e high := by
  have h : (((edged e high f).lane .lane0).input e) = ⟨high, some (!high), some 4⟩ :=
    Lane.input_setInput_same (f outLane) e _
  exact ⟨quiet_is_quiet _, rfl, by rw [h]; rfl, by rw [h], by rw [h]⟩

/-! ### Operand checks -/

theorem test_settings_block_of_64_bytes : wellFormed (.settingsReadDone (List.replicate 64 0)) = true := by decide
theorem test_settings_block_too_short : wellFormed (.settingsReadDone (List.replicate 63 0)) = false := by decide
theorem test_settings_block_too_long : wellFormed (.settingsReadDone (List.replicate 65 0)) = false := by decide
theorem test_line_with_start_mark : wellFormed (.frameReceived [false, true]) = true := by decide
theorem test_line_without_start_mark : wellFormed (.frameReceived [true, false]) = false := by decide
theorem test_line_empty : wellFormed (.frameReceived []) = false := by decide
theorem test_no_word_spells_a_command : decodeTableWord 8 0 = none ∧ up.withFetchWord 8 0 = up := by decide

/-! ### Frames on the line -/

/-- Section 10.6: the headers of node 21's END and of node 70's PUT. -/
theorem test_headers : headerWord 1 21 0x12 = 0x2552 ∧ headerWord 2 70 0x0C = 0x518C := by decide

/-- The CRC of bytes that follow others, whose CRC is known. -/
def crcOver (crc : BitVec 16) (bytes : List Byte) : BitVec 16 := (byteBits bytes).foldl crcStep crc

theorem crcOver_append (crc : BitVec 16) (xs ys : List Byte) : crcOver crc (xs ++ ys) = crcOver (crcOver crc xs) ys := by
  simp [crcOver, byteBits]

/-- R188: a block whose 64 bytes all read as ones fails its CRC. -/
def ones : List Byte := List.replicate 31 0xFF

theorem test_crc_of_ones_first_half : crcOver 0xFFFF ones = 0x08EA := by decide +kernel
theorem test_crc_of_ones_second_half : crcOver 0x08EA ones = 0x388F := by decide +kernel

theorem test_absent_memory_fails_the_crc : blockCrcOk (List.replicate 64 0xFF) = false := by
  have hb : (List.range 62).map (blockByte (List.replicate 64 0xFF)) = ones ++ ones := by decide
  have hc : crc16 (byteBits (ones ++ ones)) = 0x388F :=
    (crcOver_append 0xFFFF ones ones).trans (by rw [test_crc_of_ones_first_half, test_crc_of_ones_second_half])
  rw [blockCrcOk, hb, hc]
  decide

/-- A lane section of a settings block: REVERSIBLE, starting IN, four positions, the other items at their defaults. -/
def aSection : List Byte :=
  ([70, 0, 180, 0, 250, 7, 158, 7, 208, 4, 176, 6, 164, 40, 50, 20, 20, 60, 16, 25, 0x50, 50, 5, 220] : List Nat).map
    (BitVec.ofNat 8)

/-- The node section: debounce 4 ms, beacon 100 ms, window 4, LOST_TOTE (kind 16) masked. -/
def nodeSection : List Byte := ([4, 20, 4, 120, 40, 0, 0, 128, 0, 0, 0, 0, 0, 0] : List Nat).map (BitVec.ofNat 8)

/-- A whole settings block. -/
def aBlock : List Byte := aSection ++ aSection ++ nodeSection ++ [0x8A, 0x4B]

theorem test_crc_of_the_first_section : crcOver 0xFFFF aSection = 0xF03E := by decide +kernel
theorem test_crc_of_the_second_section : crcOver 0xF03E aSection = 0xEA4C := by decide +kernel
theorem test_crc_of_the_node_section : crcOver 0xEA4C nodeSection = 0x8A4B := by decide +kernel

theorem test_block_crc : blockCrcOk aBlock = true := by
  have hb : (List.range 62).map (blockByte aBlock) = (aSection ++ aSection) ++ nodeSection := by decide
  have hc : crc16 (byteBits ((aSection ++ aSection) ++ nodeSection)) = 0x8A4B :=
    (crcOver_append 0xFFFF _ _).trans (by
      rw [crcOver_append, test_crc_of_the_first_section, test_crc_of_the_second_section, test_crc_of_the_node_section])
  rw [blockCrcOk, hb, hc]
  decide

/-- R172: a bit of the opposite value follows a run of five, the start mark counted. -/
theorem test_stuffing : stuffFrom false 1 [false, false, false, false, false, true] =
    [false, false, false, false, true, false, true] := by decide

/-- R178: a length field of 13 is judged as soon as it is read. -/
theorem test_length_13 : receiveLine ([false] ++ [true, false, true, false, true, false, true, false, true, false, true,
    false, true, false, true, false] ++ [true, true, false, true]) = .badLength ⟨5, 42, 42, 13⟩ := by decide

/-! ### One step per command -/

theorem test_power_on : (nextOf (.powerOn ⟨7, true, false, true⟩) State.reset).straps.level = 7
    ∧ (nextOf (.powerOn ⟨7, true, false, true⟩) up).node = .loading := by decide

theorem test_reset_pin : (nextOf (.resetPin true up.straps) up).node = .held
    ∧ (nextOf (.resetPin false up.straps) (nextOf (.resetPin true up.straps) up)).node = .loading := by decide

/-- R189: with MEMORY low the power-on itself leaves OUT lanes of four positions, held, and CONFIG_DEFAULTED waiting. -/
theorem test_power_on_without_memory :
    let t := nextOf (.powerOn ⟨7, true, false, false⟩) State.reset
    t.lane1.laneHold = true ∧ t.lane1.effHold = true ∧ t.lane1.n = 4 ∧ t.defaulted = true
      ∧ t.bus.routine = [frameOf 5 23 .faultNotice [24, 1, 255, 255, 255, 255, 255]] := by
  decide +kernel

/-- R41: after power-on a lane that is not fitted has its eyes CLEAR and its aligned input INACTIVE. -/
theorem test_unfitted_lane_after_reset :
    (State.reset.lane1.input .sSill).debounced = some true ∧ (State.reset.lane1.input .aligned).debounced = some false
      ∧ (State.reset.lane0.input .sSill).debounced = none := by decide

/-- R33: the two output levels of each drive command. -/
theorem test_zone_outputs :
    ({ outLane with zones := #v[.stop, .forward, .reverse, .stop] } : Lane).outputs
      = #v[(false, false), (true, false), (false, true), (false, false)] := by decide

/-- R28: a level that differs from the debounced state starts the timer at the debounce time, 4 ms. -/
theorem test_pin_change : (((nextOf (.eyePinChange .lane0 .sSill false) up).lane0.input .sSill).timer) = some 4 := by decide

/-- Section 1.10, step 4: stop eye 2 blocks, the move 1 to 2 completes, and U stands at 2. -/
theorem test_move_completes :
    let s := withLane0 fun l =>
      turningTo (.stop 2) false
        { blockedAt (.stop 3) l with
          queue := [toteAt 1 3 .leaving, toteAt 2 2 .moving], move := some ⟨1, 2, true⟩, moveTimer := some 2500
          zones := #v[.stop, .forward, .forward, .stop] }
    let t := nextOf (.debounceTimerExpiry .lane0 (.stop 2)) s
    t.lane0.queue = [toteAt 1 3 .leaving, toteAt 2 2 .seated] ∧ t.lane0.zones = #v[.stop, .stop, .stop, .stop] := by decide

/-- R113, R114: A leads in the FORWARD sense, so a change of A from 00 counts +1. -/
theorem test_encoder_edge :
    let s := withLane0 fun l =>
      { l with tracker :=
          { Tracker.initial with running := true, job := some ⟨.take, .standard, none⟩, active := some .t1, stall := some 9 } }
    (nextOf (.encoderEdge .lane0 .a) s).lane0.tracker.count = 1 ∧ (nextOf (.encoderEdge .lane0 .b) s).lane0.tracker.count = -1 := by
  decide

/-- R38: the fifth sample above the high threshold in a commanded lane raises OVERLOAD. -/
theorem test_current_sample :
    let s := withLane0 fun l =>
      { l with zones := #v[.stop, .forward, .forward, .stop], move := some ⟨1, 2, false⟩, moveTimer := some 9
               sensing := { l.sensing with runClass := .above, runCount := 4 } }
    (nextOf (.currentSample .lane0 1501) s).lane0.state = .faulted
      ∧ (nextOf (.currentSample .lane0 1500) s).lane0.state = .running := by decide

/-- Section 1.11, step 4: MOVE_TIMEOUT leaves the moving tote STRANDED and the others SEATED. -/
def jammed : State := withLane0 fun l =>
  { blockedAt (.stop 2) (blockedAt (.stop 3) l) with
    queue := [toteAt 1 3 .offered, toteAt 5001 2 .seated, toteAt 5002 1 .moving], move := some ⟨0, 1, true⟩
    moveTimer := some 1, zones := #v[.forward, .forward, .stop, .stop]
    lEnd := { LiftEnd.initial with state := .offering, head := some ⟨some 1⟩ } }

theorem test_move_timeout :
    (nextOf (.moveTimerExpiry .lane0) jammed).lane0.queue =
        [toteAt 1 3 .seated, toteAt 5001 2 .seated, toteAt 5002 1 .stranded]
      ∧ (nextOf (.moveTimerExpiry .lane0) jammed).bus.urgent = [] := by decide

/-- A put of tote 9, RESERVED. -/
def putHeld (l : Lane) : Lane :=
  { l with queue := [toteAt 9 0 .entering], sEnd := ⟨.reserved, some (.put (some 9) .loose .standard), none, some 5000⟩ }

def putReserved : State := withLane0 putHeld

/-- A put of tote 9, in TRANSFER with the S-sill blocked. -/
def entering (l : Lane) : Lane :=
  { blockedAt .sSill l with
    queue := [toteAt 9 0 .entering], zones := #v[.forward, .stop, .stop, .stop]
    sEnd := ⟨.transfer, some (.put (some 9) .loose .standard), none, some 2500⟩ }

def putTransfer : State := withLane0 entering

/-- R70: END LAPSED TIMEOUT, no tote entered. -/
theorem test_put_window : (nextOf (.putWindowExpiry .lane0) putReserved).bus.urgent =
    [frameOf 2 23 .ended [7, 2, 1, 1, 0, 0, 0, 9, 255, 255, 255, 255]]
      ∧ (nextOf (.putWindowExpiry .lane0) putReserved).lane0.queue = [] := by decide

/-- R71: ENTRY_TIMEOUT with the sill blocked, END STRANDED. -/
theorem test_entry_timer : (nextOf (.entryTimerExpiry .lane0) putTransfer).bus.urgent =
    [frameOf 2 23 .ended [7, 2, 3, 1, 0, 0, 0, 9, 255, 255, 255, 255]] := by decide

/-- A fetch of tote 9 in an IN lane, in TRANSFER. -/
def fetching (l : Lane) : Lane :=
  { l with
    kind := .reversible, dir := .inward, queue := [{ toteAt 9 0 .leaving with cls := none }]
    zones := #v[.reverse, .stop, .stop, .stop], sEnd := ⟨.transfer, some (.fetch (some 9) false), none, some 5000⟩ }

/-- R78: the tote still stands at stop eye 0, so END LAPSED TIMEOUT and the record is SEATED and offered anew. -/
theorem test_fetch_window :
    let t := nextOf (.fetchWindowExpiry .lane0) (withLane0 fun l => blockedAt (.stop 0) (fetching l))
    t.bus.urgent.head? = some (frameOf 2 23 .ended [7, 2, 1, 1, 0, 0, 0, 9, 255, 255, 255, 255])
      ∧ t.lane0.sEnd.state = .offering := by decide

/-- A take of tote 9 at position 3, RESERVED with the input flag set. -/
def taking (l : Lane) : Lane :=
  { blockedAt (.stop 3) l with
    queue := [toteAt 9 3 .leaving]
    lEnd := { LiftEnd.initial with
      state := .reserved, hand := some ⟨.take, ⟨some 9, .standard⟩, none, false⟩, inputFlag := true, timer := some 15000 } }

/-- A give of tote 9, RESERVED. -/
def giving (l : Lane) : Lane :=
  { l with
    kind := .reversible, dir := .inward, queue := [{ toteAt 9 3 .entering with kind := .inbound, cls := none }]
    lEnd := { LiftEnd.initial with
      state := .reserved, hand := some ⟨.give, ⟨some 9, .standard⟩, none, false⟩, timer := some 15000 } }

/-- R98: END LAPSED ALIGN, and the record is offered anew. -/
theorem test_align_window :
    let t := nextOf (.alignWindowExpiry .lane0) (withLane0 taking)
    t.bus.urgent.head? = some (frameOf 1 23 .ended [7, 0, 1, 2, 0, 0, 0, 9, 255, 255, 255, 255])
      ∧ t.lane0.lEnd.state = .offering := by decide

/-- A take of tote 9 in TRANSFER: GO has just been given. -/
def transferring (l : Lane) : Lane :=
  { taking l with
    zones := #v[.stop, .stop, .stop, .forward]
    lEnd := { LiftEnd.initial with state := .transfer, hand := some ⟨.take, ⟨some 9, .standard⟩, none, false⟩ }
    tracker := Tracker.initial.start defaultLaneSettings ⟨.take, .standard, none⟩ false false }

/-- A take of totes 8 and 9 in TRANSFER. -/
def transferringTwo (l : Lane) : Lane :=
  { transferring l with
    queue := [toteAt 8 3 .leaving, toteAt 9 2 .leaving]
    lEnd := { LiftEnd.initial with
      state := .transfer, hand := some ⟨.take, ⟨some 8, .standard⟩, some ⟨some 9, .standard⟩, false⟩ }
    tracker := Tracker.initial.start defaultLaneSettings ⟨.take, .standard, some .standard⟩ false false }

/-- A give of tote 9 in TRANSFER. -/
def receiving (l : Lane) : Lane :=
  { giving l with
    lEnd := { LiftEnd.initial with state := .transfer, hand := some ⟨.give, ⟨some 9, .standard⟩, none, false⟩ }
    tracker := Tracker.initial.start defaultLaneSettings ⟨.give, .standard, none⟩ false false }

/-- A transfer with its tracker at a target and a count. -/
def atTarget (g : Target) (count : Int) (f : Lane → Lane) (l : Lane) : Lane :=
  { f l with tracker := { (f l).tracker with active := some g, count := count } }

/-- R125: with the held class BELOW the stall timer raises STALL, and with it INSIDE the tracker goes UNTRACKED. -/
theorem test_stall_timer :
    (nextOf (.stallTimerExpiry .lane0) (withLane0 transferring)).lane0.state = .faulted
      ∧ (nextOf (.stallTimerExpiry .lane0) (withLane0 fun l =>
          { transferring l with sensing := { (transferring l).sensing with heldClass := .inside } })).lane0.tracker.untracked
        = true := by decide

/-- R127: in TRACKED mode the transfer timer sets the time-out note. -/
theorem test_transfer_timer :
    (nextOf (.transferTimerExpiry .lane0) (withLane0 transferring)).lane0.tracker.timedOut = true := by decide

/-- A turnaround to IN asked for by the lift, DRAINING behind one tote. -/
def draining (l : Lane) : Lane :=
  { blockedAt (.stop 3) l with
    kind := .reversible, state := .draining, queue := [toteAt 9 3 .seated]
    turnaround := some ⟨.lift, .inward, false, some 30000, none⟩ }

/-- A turnaround to IN in TURNING, the proposal pending with the shuttle. -/
def turning (l : Lane) : Lane :=
  { l with kind := .reversible, state := .turning, turnaround := some ⟨.lift, .inward, true, none, some 2000⟩ }

/-- R136, R138: TURNED TIMEOUT with the old direction. -/
theorem test_drain_timer : (nextOf (.drainTimerExpiry .lane0) (withLane0 draining)).bus.urgent.head? =
    some (frameOf 2 23 .turned [7, 0, 0, 2]) := by decide

theorem test_turn_timer : (nextOf (.turnTimerExpiry .lane0) (withLane0 turning)).bus.urgent =
    [frameOf 2 23 .turned [7, 0, 0, 2]] := by decide

/-- R154: three beacon periods of silence, then five more. -/
theorem test_silence_timer : (nextOf (.silenceTimerExpiry .liftA) up).peer .liftA = ⟨.late, true, some 500⟩
    ∧ ((nextOf (.silenceTimerExpiry .liftA) (nextOf (.silenceTimerExpiry .liftA) up)).log.kind .peerLost).count = 1 := by
  decide

/-- R186: a BEACON of two empty OUT lanes, RUNNING. -/
theorem test_beacon :
    (nextOf .beaconTimerExpiry { up with bus := { up.bus with beaconTimer := some 100 } }).bus.routine =
      [frameOf 6 23 .beacon [1, 0, 1, 0, 64, 255, 255, 1, 0, 64, 255, 255]] := by decide

/-- Section 10.6: END waits in the urgent queue and NOTICE in the routine queue. -/
def waiting : State :=
  quiet { up with bus := { up.bus with
    urgent := [frameOf 1 23 .ended []], routine := [frameOf 5 23 .faultNotice [], frameOf 6 23 .beacon []] } }

theorem test_attempt_urgent_first : (nextOf .txAttemptStart waiting).bus.attempt = some .urgent := by decide

theorem test_sent : (nextOf .txSent (nextOf .txAttemptStart waiting)).bus.urgent = []
    ∧ (nextOf .txSent (nextOf .txAttemptStart waiting)).bus.routine.length = 2 := by decide

theorem test_arbitration_lost : (nextOf .arbitrationLost (nextOf .txAttemptStart waiting)).bus.urgentTries = 0
    ∧ (nextOf .arbitrationLost (nextOf .txAttemptStart waiting)).bus.attempt = none := by decide

theorem test_mismatch_counts : (nextOf .txMismatch (nextOf .txAttemptStart waiting)).bus.urgentTries = 1 := by decide

/-- R175: the third mismatch takes the frame out with TX_FAIL. -/
theorem test_third_mismatch :
    let s := quiet { waiting with bus := { waiting.bus with attempt := some .urgent, urgentTries := 2 } }
    (nextOf .txMismatch s).bus.urgent = [] ∧ ((nextOf .txMismatch s).log.kind .txFail).count = 1 := by decide

/-- R178 to R182: a PUT for this level joins the receive queue. -/
def aPut : Frame := frameOf 2 71 .put [7, 0, 0, 0, 0, 9, 1, 0, 0, 0]

theorem test_frame_received : (nextOf (.frameReceived (lineBits aPut)) up).bus.received = [aPut] := by decide +kernel

/-- R69: the PUT is accepted: REPLY ACCEPTED for the S-end. -/
theorem test_put : (nextOf .put (heading aPut up)).bus.urgent = [frameOf 2 23 .reply [7, 2, 12, 0, 0, 0, 0, 0, 9]]
    ∧ (nextOf .put (heading aPut up)).lane0.sEnd.state = .reserved := by decide

/-- A put of a grouped tote of no open group, with the urgent queue full: the bus link drops the REPLY and the group table finds
no entry, and the fault log may take either first (R163). -/
theorem test_put_raises_in_two_blocks :
    let s := heading { aPut with payload := [7, 0, 0, 0, 0, 9, 0, 5, 0, 1] }
      { up with bus := { up.bus with urgent := List.replicate 8 (frameOf 1 23 .ended []) } }
    let t := takePut { aPut with payload := [7, 0, 0, 0, 0, 9, 0, 5, 0, 1] } s
    t.unlogged.map (fun h => (h.block, h.occurrence.kind)) = [(.busLink, .txOverflow), (.groupTable, .groupUnknown)]
      ∧ (takings t.unlogged).map (·.1.block) = [.busLink, .groupTable] := by decide

/-- R66: the same PUT from another level's shuttle is refused WRONG_PARTNER. -/
theorem test_put_wrong_partner : (nextOf .put (heading { aPut with src := 70 } up)).bus.urgent =
    [frameOf 2 23 .reply [7, 2, 12, 8, 0, 0, 0, 0, 9]] := by decide

/-- Tote 9 offered to the shuttle. -/
def offeredIn (l : Lane) : Lane :=
  { blockedAt (.stop 0) l with
    kind := .reversible, dir := .inward, queue := [{ toteAt 9 0 .offered with cls := none }]
    sEnd := ⟨.offering, none, some ⟨some 9⟩, none⟩ }

def aFetch : Frame := frameOf 2 71 .fetch [7, 0, 0, 0, 0, 9]

/-- R77: zone 0 runs in REVERSE and the record is LEAVING. -/
theorem test_fetch :
    let t := nextOf .fetch (heading aFetch (withLane0 offeredIn))
    t.lane0.zones = #v[.reverse, .stop, .stop, .stop] ∧ t.lane0.queue.map (·.state) = [.leaving] := by decide

/-- Totes 8 and 9 offered to the lift, 8 as head. -/
def offeredOut (l : Lane) : Lane :=
  { blockedAt (.stop 2) (blockedAt (.stop 3) l) with
    queue := [toteAt 8 3 .offered, toteAt 9 2 .offered]
    lEnd := { LiftEnd.initial with state := .offering, head := some ⟨some 8⟩, second := some ⟨some 9⟩ } }

def aTake (count : Nat) : Frame := frameOf 1 1 .take [7, 0, count, 0, 0, 0, 8]

/-- R92: a take of both, and a take of one with the second withdrawn. -/
theorem test_take_two : (nextOf .take (heading (aTake 2) (withLane0 offeredOut))).bus.urgent =
    [frameOf 1 23 .reply [7, 0, 10, 0, 2, 0, 0, 0, 8]] := by decide

theorem test_take_one : (nextOf .take (heading (aTake 1) (withLane0 offeredOut))).bus.urgent =
    [frameOf 1 23 .reply [7, 0, 10, 0, 1, 0, 0, 0, 8], frameOf 1 23 .withdraw [7, 4, 0, 0, 0, 9]] := by decide

def aGive : Frame := frameOf 1 1 .give [7, 0, 0, 0, 0, 9, 1]

/-- R95: a LONG tote enters at position 3, INBOUND. -/
theorem test_give :
    (nextOf .give (heading aGive (withLane0 fun _ => inLane))).lane0.queue =
      [⟨some 9, .inbound, .long, 3, .entering, none, false⟩] := by decide

def anAligned : Frame := frameOf 1 1 .aligned [7, 0]

/-- R97: both flags set, GO is sent, zone 3 runs and the tracker waits for T1. -/
theorem test_aligned :
    let t := nextOf .aligned (heading anAligned (withLane0 taking))
    t.bus.urgent = [frameOf 1 23 .go [7, 0, 0, 1]] ∧ t.lane0.tracker.active = some .t1
      ∧ t.lane0.zones = #v[.stop, .stop, .stop, .forward] := by decide

def anAbort : Frame := frameOf 1 1 .abort [7, 0, 0]

/-- R100: END ABORTED with count 0, and the record offered anew. -/
theorem test_abort :
    (nextOf .abort (heading anAbort (withLane0 taking))).bus.urgent.head? =
      some (frameOf 1 23 .ended [7, 0, 2, 0, 0, 0, 0, 9, 255, 255, 255, 255]) := by decide

def aTurn : Frame := frameOf 2 1 .turn [7, 0, 1]

/-- R133, R135: an empty lane goes on to TURNING, with PROPOSE after the REPLY. -/
theorem test_turn :
    (nextOf .turn (heading aTurn (withLane0 fun l => { l with kind := .reversible }))).bus.urgent =
      [frameOf 2 23 .reply [7, 2, 20, 0, 0, 255, 255, 255, 255], frameOf 2 23 .propose [7, 0, 1]] := by decide

def anAnswer (yes : Nat) : Frame := frameOf 2 71 .answer [7, 0, yes]

/-- R137, R138: yes turns the lane to IN. -/
theorem test_answer :
    (nextOf .answer (heading (anAnswer 1) (withLane0 turning))).bus.urgent = [frameOf 2 23 .turned [7, 0, 1, 0]]
      ∧ (nextOf .answer (heading (anAnswer 0) (withLane0 turning))).bus.urgent = [frameOf 2 23 .turned [7, 0, 0, 1]] := by
  decide

def anOpen : Frame := frameOf 3 4 .groupOpen [7, 0, 10, 4, 0, 3]

/-- R46, R47: first seq 10, window 4, three totes, so the last seq is 12. -/
theorem test_group_open : (nextOf .groupOpen (heading anOpen up)).groups = [⟨7, .opened, 10, 4, 0, some 12⟩] := by decide

def aClose : Frame := frameOf 3 4 .groupClose [7]

/-- R50, R51: no record carries the group, so its entry is removed. -/
theorem test_group_close : (nextOf .groupClose (heading aClose { up with groups := [⟨7, .opened, 10, 4, 0, some 12⟩] })).groups
    = [] := by decide

def aPassed (q m : Nat) : Frame := frameOf 3 4 .passed [7, q / 256, q % 256, m / 256, m % 256]

/-- R53 to R55: 10 passes with 11 marked before, and the cursor runs on to 12. -/
theorem test_passed :
    (nextOf .passed (heading (aPassed 10 10) { up with groups := [⟨7, .opened, 10, 4, 2, none⟩] })).groups =
      [⟨7, .opened, 12, 4, 0, none⟩] := by decide

def aLaneHold (mask : Nat) : Frame := frameOf 4 4 .laneHold [7, mask]
def aLaneRelease (mask : Nat) : Frame := frameOf 4 4 .laneRelease [7, mask]

theorem test_lane_hold : (nextOf .laneHold (heading (aLaneHold 2) up)).lane1.effHold = true
    ∧ (nextOf .laneHold (heading (aLaneHold 2) up)).lane0.effHold = false := by decide

theorem test_lane_release :
    (nextOf .laneRelease (heading (aLaneRelease 3) { up with levelHold := true })).lane0.effHold = false := by decide

def anAisleHold : Frame := frameOf 0 20 .aisleHold []
def anAisleRelease (all : Nat) : Frame := frameOf 0 20 .aisleRelease [all]

theorem test_aisle_hold : (nextOf .aisleHold (heading anAisleHold up)).holders = [20]
    ∧ (nextOf .aisleHold (heading anAisleHold up)).lane0.effHold = true := by decide

theorem test_aisle_release :
    (nextOf .aisleRelease (heading (anAisleRelease 0) { up with holders := [20, 21] })).holders = [21] := by decide

def aLaneReset : Frame := frameOf 4 4 .laneReset [7, 0]

/-- Section 1.11: the lane FAULTED by the time-out, the jammed tote set by hand at position 1. -/
def freed : State := withLane0 fun l =>
  { blockedAt (.stop 1) (blockedAt (.stop 2) (blockedAt (.stop 3) l)) with
    state := .faulted
    queue := [toteAt 1 3 .seated, { toteAt 5001 2 .seated with kind := .grouped 7 12, cls := some .ahead }, toteAt 5002 1 .stranded] }

theorem test_lane_reset :
    (nextOf .laneReset (heading aLaneReset freed)).lane0.queue =
        [toteAt 1 3 .offered, { toteAt 5001 2 .seated with kind := .grouped 7 12, cls := some .ahead }, toteAt 5002 1 .seated]
      ∧ (nextOf .laneReset (heading aLaneReset freed)).lane0.state = .running := by decide

/-- A take of tote 8 and a put of tote 9, both RESERVED, in a lane that drains for the lift. -/
def doubleHanded (l : Lane) : Lane :=
  { taking l with
    kind := .reversible, state := .draining, queue := [toteAt 8 3 .leaving, toteAt 9 0 .entering]
    lEnd := { (taking l).lEnd with hand := some ⟨.take, ⟨some 8, .standard⟩, none, false⟩ }
    sEnd := ⟨.reserved, some (.put (some 9) .loose .standard), none, some 5000⟩
    turnaround := some ⟨.lift, .inward, false, some 30000, none⟩ }

/-- R25: END ABORTED of the L-end and then of the S-end, REPLY TURN OUT_OF_SERVICE, REPLY LANE RESET ACCEPTED. -/
theorem test_lane_reset_frames :
    (nextOf .laneReset (heading aLaneReset (withLane0 doubleHanded))).bus.urgent.take 4 =
      [frameOf 1 23 .ended [7, 0, 2, 0, 0, 0, 0, 8, 255, 255, 255, 255],
       frameOf 2 23 .ended [7, 2, 2, 1, 0, 0, 0, 9, 255, 255, 255, 255],
       frameOf 2 23 .reply [7, 2, 0x14, 9, 0, 255, 255, 255, 255],
       frameOf 1 23 .reply [7, 0, 0x22, 0, 0, 255, 255, 255, 255]] := by decide

def aNodeReset : Frame := frameOf 4 4 .nodeReset [7]

theorem test_node_reset : (nextOf (.nodeReset up.straps) (heading aNodeReset up)).node = .loading
    ∧ (nextOf (.nodeReset up.straps) (heading aNodeReset up)).bus = .initial := by decide

def aFaultClear : Frame := frameOf 4 4 .faultClear [7]
def aFaultQuery (selector : Nat) : Frame := frameOf 4 4 .faultQuery [7, selector]

/-- Section 9.10 at level 7: the log after LOST_TOTE (masked) and LENGTH of tote 7720. -/
def recorded : State :=
  let masked : FaultLog :=
    { up.log with kinds := up.log.kinds.set 15 { status := false, count := 0, masked := true, escalate := false } }
  let o1 : Occurrence := ⟨.lostTote, some .lane1, some 8800, none, none⟩
  let o2 : Occurrence := ⟨.length, some .lane0, some 7720, none, some ⟨1417, some (-4)⟩⟩
  quiet (logOccurrence o2 { logOccurrence o1 { up with log := masked, timeBase := 120000 } with timeBase := 125400 })

/-- Section 9.10, step 8. -/
theorem test_fault_clear : (nextOf .faultClear (heading aFaultClear recorded)).log.first = none
    ∧ (nextOf .faultClear (heading aFaultClear recorded)).bus.urgent =
      [frameOf 1 23 .reply [7, 0, 36, 0, 0, 255, 255, 255, 255]] := by decide

/-- Section 9.10, steps 1, 2 and 6: one notice, of LENGTH, and the first-fault record's part A. -/
theorem test_fault_query : (nextOf .faultQuery (heading (aFaultQuery 1) recorded)).bus.routine =
    [frameOf 5 23 .faultNotice [10, 0, 0, 0, 0, 30, 40],
     frameOf 5 23 .faultReport [1, 10, 0, 0, 0, 30, 40, 0, 1, 233, 216]] := by decide

/-! ### For each statement, states that meet its hypotheses -/

theorem takes_head (f : Frame) (s : State) (hn : s.node = .listening ∨ s.node = .running) :
    (heading f s).TakesHead f.code f [] := ⟨hn, rfl, rfl⟩

theorem witness_EmptyQueuePassesOneMillisecond :
    up.pending = [] ∧ up.node ≠ .held ∧ (nextOf (.resetPin true up.straps) up).pending = []
      ∧ (nextOf (.resetPin true up.straps) up).node = .held := by decide

theorem witness_EveryCommandCompletesInItsPart :
    restarts .put = false ∧ configures .put = false ∧ (∀ l, Instr.put ≠ .frameReceived l)
      ∧ ∀ p, Instr.put ≠ .silenceTimerExpiry p := ⟨rfl, rfl, nofun, nofun⟩

theorem witness_HoldsChangeOnlyByTheirFrames :
    (∃ t, exec .arbitrationLost { waiting with levelHold := true } = .next t) ∧ restarts .arbitrationLost = false
      ∧ configures .arbitrationLost = false ∧ { waiting with levelHold := true }.levelHold = true :=
  ⟨⟨_, rfl⟩, rfl, rfl, rfl⟩

/-- The jam of section 1.11 with MOVE_TIMEOUT escalating: the level hold is set. -/
theorem witness_HoldsChangeOnlyByTheirFrames_escalation :
    let s := { jammed with log :=
      { jammed.log with kinds := jammed.log.kinds.set 0 { status := false, count := 0, masked := false, escalate := true } } }
    s.levelHold = false ∧ (nextOf (.moveTimerExpiry .lane0) s).levelHold = true := by decide

theorem witness_DirectionChangesOnlyByAnswer :
    (∃ t, exec .put (heading aPut up) = .next t) ∧ configures .put = false ∧ Instr.put ≠ .answer := ⟨⟨_, rfl⟩, rfl, nofun⟩

theorem witness_FaultedLaneWaitsForReset :
    (∃ t, exec .faultClear (heading aFaultClear freed) = .next t) ∧ configures .faultClear = false
      ∧ Instr.faultClear ≠ .laneReset ∧ ((heading aFaultClear freed).lane .lane0).state = .faulted :=
  ⟨⟨_, rfl⟩, rfl, nofun, rfl⟩

theorem witness_LogOnlyGrowsUntilCleared :
    (∃ t, exec .put (heading aPut recorded) = .next t) ∧ (heading aPut recorded).log.first.isSome = true
      ∧ ((heading aPut recorded).log.kind .length).status = true ∧ ((heading aPut recorded).log.kind .length).count ≤ 255 :=
  ⟨⟨_, rfl⟩, by decide, by decide, by decide⟩

theorem witness_StepKeepsHoldsAndDrives :
    (quiet jammed).Quiet ∧ ∃ t, step { quiet jammed with pending := [.moveTimerExpiry .lane0] } = .next t :=
  ⟨quiet_is_quiet _, ⟨_, rfl⟩⟩

theorem witness_StepKeepsStoppedLanesAtRest : freed.RestLaw ∧ (freed.lane .lane0).state = .faulted
    ∧ ∃ t, step { freed with pending := [.moveTimerExpiry .lane0] } = .next t := by
  refine ⟨fun i hi => ?_, rfl, ⟨_, rfl⟩⟩
  cases i
  · exact ⟨rfl, rfl, rfl, rfl, rfl, rfl⟩
  · exact ⟨rfl, rfl, rfl, rfl, rfl, rfl⟩

theorem witness_StepKeepsTurningLanesEmpty : (withLane0 turning).TurningLaw
    ∧ ∃ t, step { withLane0 turning with pending := [.turnTimerExpiry .lane0] } = .next t := by
  refine ⟨fun i => ?_, ⟨_, rfl⟩⟩
  cases i
  · refine ⟨nofun, fun _ => Or.inr rfl, fun _ => ⟨rfl, rfl, rfl⟩, ⟨fun _ => Or.inr rfl, fun _ => rfl⟩, fun r h => ?_⟩
    obtain rfl := Option.some.inj h
    exact ⟨rfl, by decide, nofun, fun _ => ⟨rfl, rfl, rfl⟩⟩
  · exact ⟨nofun, fun _ => Or.inr rfl, nofun, ⟨nofun, fun h => h.elim nofun nofun⟩, nofun⟩

theorem witness_StepKeepsTheLaneQueues : (withLane0 offeredOut).LaneLaw
    ∧ ∃ t, step { withLane0 offeredOut with pending := [.beaconTimerExpiry] } = .next t := by
  have up0 : ∀ i, ((withLane0 offeredOut).lane i).state = .running := fun i => by cases i <;> rfl
  have node : (withLane0 offeredOut).node = .running := rfl
  have idle : ∀ i, (withLane0 offeredOut).IdleLaw i := fun i => by
    refine ⟨fun h => ?_, fun h => ?_, fun h => absurd (Or.inr node) h⟩
    · rcases h with h | h | h
      · exact nomatch (up0 i).symm.trans h
      · exact nomatch (up0 i).symm.trans h
      · exact absurd (Or.inr node) h
    · rcases h with h | h | h | h
      · exact nomatch (up0 i).symm.trans h
      · exact nomatch (up0 i).symm.trans h
      · exact nomatch (up0 i).symm.trans h
      · exact absurd (Or.inr node) h
  refine ⟨⟨fun i => ?_, by decide⟩, ⟨_, rfl⟩⟩
  cases i
  · refine ⟨⟨by decide, by decide, by decide, by simp only [Lane.nearer]; decide⟩,
      fun k => ⟨fun h => (nomatch h.1), fun h => (nomatch h.1), fun h => (nomatch h.1)⟩,
      ⟨nofun, ?_⟩, ⟨rfl, by decide, nofun, nofun, nofun⟩,
      ⟨rfl, by decide, nofun, fun _ => ⟨rfl, by unfold Lane.Has; decide⟩, fun _ => ⟨rfl, by unfold Lane.Has; decide⟩⟩, ?_,
      by unfold Lane.ZoneLaw; decide, idle _⟩
    · have h : ∀ r ∈ ((withLane0 offeredOut).lane .lane0).queue, r.state ≠ .moving := by decide
      exact fun r hr hm => absurd hm (h r hr)
    · have h : ∀ r ∈ ((withLane0 offeredOut).lane .lane0).queue, r.state = .offered ∧ (r.pos = 3 ∨ r.pos = 2) := by decide
      intro r hr
      obtain ⟨hs, hp⟩ := h r hr
      rw [hs]
      exact ⟨nofun, nofun, fun _ => Or.inr (hp.imp (fun e => ⟨e, rfl⟩) fun e => ⟨e, rfl⟩)⟩
  · have e : ∀ r, r ∉ ((withLane0 offeredOut).lane .lane1).queue := fun _ => List.not_mem_nil
    exact ⟨⟨by decide, by decide, fun r hr => (e r hr).elim, .nil⟩,
      fun k => ⟨fun h => (nomatch h.1), fun h => (nomatch h.1), fun h => (nomatch h.1)⟩,
      ⟨nofun, fun r hr => (e r hr).elim⟩, ⟨rfl, by decide, nofun, nofun, nofun⟩, ⟨rfl, by decide, nofun, nofun, nofun⟩,
      fun r hr => (e r hr).elim, by unfold Lane.ZoneLaw; decide, idle _⟩

/-- A group table with one entry at the largest window. -/
def grouped : State := quiet { up with groups := [⟨7, .opened, 10, 32, 2, none⟩] }

theorem grouped_law : grouped.GroupLaw := ⟨by decide, by decide, by decide⟩

theorem witness_StepKeepsTheGroupTable : grouped.GroupLaw ∧ grouped.WindowLaw
    ∧ ∃ t, step { grouped with pending := [.beaconTimerExpiry] } = .next t :=
  ⟨grouped_law, ⟨by decide, by decide⟩, ⟨_, rfl⟩⟩

theorem witness_StepKeepsTheGroupTable_classes : (withLane0 offeredOut).LaneLaw ∧ (withLane0 offeredOut).ClassLaw
    ∧ (withLane0 offeredOut).GroupLaw ∧ (withLane0 offeredOut).WindowLaw :=
  ⟨witness_StepKeepsTheLaneQueues.1, fun i => by cases i <;> decide, ⟨by decide, by decide, by decide⟩, ⟨by decide, by decide⟩⟩

theorem log_counts (s : State) (h : s.log = .initial) (k : FaultKind) : (s.log.kind k).count ≤ 255 := by
  rw [h]; cases k <;> decide

/-- The urgent queue full: eight frames. -/
def fullQueue : State := quiet { up with bus := { up.bus with urgent := List.replicate 8 (frameOf 1 23 .ended []) } }

theorem witness_StepKeepsTheCapacities : fullQueue.CapacityLaw
    ∧ ∃ t, step { fullQueue with pending := [.txAttemptStart] } = .next t :=
  ⟨⟨by decide, by decide, by decide, by decide, by decide, log_counts _ rfl⟩, ⟨_, rfl⟩⟩

theorem witness_LaneEventTouchesOnlyItsLane :
    (eventLane (.moveTimerExpiry .lane0) = some .lane0 ∧ jammed.Quiet ∧ jammed.node ≠ .loading
        ∧ ∃ t, exec (.moveTimerExpiry .lane0) jammed = .next t)
      ∧ (laneFrameCode .put = some 0x0C ∧ (heading aPut up).Quiet ∧ (heading aPut up).TakesHead 0x0C aPut []
        ∧ ∃ t, exec .put (heading aPut up) = .next t) :=
  ⟨⟨rfl, quiet_is_quiet _, by decide, ⟨_, rfl⟩⟩, rfl, quiet_is_quiet _, takes_head _ _ (Or.inr rfl), ⟨_, rfl⟩⟩

theorem witness_RestartsLeaveTheResetState :
    up.resetLow = false ∧ (nextOf (.resetPin true up.straps) up).resetLow = true
      ∧ (heading aNodeReset up).TakesHead 0x23 aNodeReset [] := ⟨rfl, rfl, takes_head _ _ (Or.inr rfl)⟩

/-- A node that has just begun LOADING. -/
def loading : State := nextOf (.powerOn ⟨7, true, true, true⟩) State.reset

theorem rejected_by_crc {b : List Byte} {p : Straps} (h : blockCrcOk b = false) : readSettings b p = none := by
  simp [readSettings, h]

theorem witness_RejectedBlockGivesTheDefaults :
    loading.node = .loading ∧ loading.settingsTaken = false ∧ readSettings (List.replicate 64 0xFF) loading.straps = none
      ∧ (loading.lane0.input .lSill).debounced = none :=
  ⟨rfl, rfl, rejected_by_crc test_absent_memory_fails_the_crc, by decide⟩

theorem witness_AcceptedBlockIsInForce :
    loading.node = .loading ∧ loading.settingsTaken = false ∧ ∃ c, readSettings aBlock loading.straps = some c := by
  refine ⟨rfl, rfl, Option.isSome_iff_exists.mp ?_⟩
  simp only [readSettings, test_block_crc]
  decide

/-- A one-lane part in LOADING, all its inputs settled but one or two. -/
def settling (f : Lane → Lane) : State :=
  quiet { up with node := .loading, lane0 := f outLane, lane1 := { outLane with state := .disabled } }

def unsettled (e : InputId) (l : Lane) : Lane := l.setInput e ⟨true, none, some 4⟩

theorem witness_SettlingEndsLoading_last :
    let s := settling (unsettled .sSill)
    s.Quiet ∧ s.node = .loading ∧ s.settingsTaken = true ∧ ((s.lane .lane0).input .sSill).timer.isSome = true
      ∧ ((s.lane .lane0).input .sSill).debounced = none
      ∧ ∀ j e', (j, e') ≠ (LaneId.lane0, InputId.sSill) → (s.lane j).watches e' = true →
          ((s.lane j).input e').debounced.isSome = true := by
  refine ⟨quiet_is_quiet _, rfl, rfl, rfl, rfl, fun j e' hne hw => ?_⟩
  cases j
  · cases e' with
    | stop k => revert k; decide
    | sSill => exact absurd rfl hne
    | lSill => rfl
    | aligned => rfl
  · cases e' <;> exact absurd hw (by decide +revert)

/-- A fitted lane with both sills clear, one with a sill blocked, one that is held, and a DISABLED one. -/
theorem witness_SettlingEndsLoading_inventory :
    (let l := (settling (unsettled .sSill)).lane .lane0
     l.state = .running ∧ l.queue = [] ∧ l.move = none ∧ (l.took .sSill).blocked .sSill = false
      ∧ (l.took .sSill).blocked .lSill = false)
    ∧ (let l := (settling fun l => unsettled .sSill (blockedAt .lSill l)).lane .lane0
       l.state = .running ∧ l.queue = [] ∧ l.move = none ∧ (l.took .sSill).blocked .lSill = true)
    ∧ ((settling (unsettled .sSill)).lane .lane1).state = .disabled
    ∧ ((settling fun l => { unsettled .sSill l with laneHold := true }).lane .lane0).effHold = true := by decide

/-- Section 1.10, steps 1 and 2: stop eyes 1 and 3 are blocked, and the unknown tote at 1 moves to 2. -/
theorem test_inventory_at_the_end_of_loading :
    let s := inventoryLanes (settling fun l => blockedAt (.stop 1) (blockedAt (.stop 3) l))
    let unknown (k : Nat) (st : ToteState) : Tote := ⟨none, .loose, .long, k, st, some .loose, false⟩
    s.lane0.queue = [unknown 3 .seated, unknown 1 .seated]
      ∧ (evalMove .lane0 { s with node := .listening }).lane0.queue = [unknown 3 .seated, unknown 2 .moving] := by decide

theorem witness_SettlingEndsLoading_other :
    let s := settling fun l => unsettled (.stop 3) (unsettled .sSill l)
    s.Quiet ∧ s.node = .loading ∧ ((s.lane .lane0).input .sSill).timer.isSome = true
      ∧ ((s.lane .lane0).input .sSill).debounced = none
      ∧ ∃ j e', (j, e') ≠ (LaneId.lane0, InputId.sSill) ∧ (s.lane j).watches e' = true
          ∧ ((s.lane j).input e').debounced = none :=
  ⟨quiet_is_quiet _, rfl, rfl, rfl, .lane0, .stop 3, nofun, rfl, rfl⟩

theorem witness_PinsAndTimersOnlySettleAnInput :
    (let s := withLane0 fun l => { l with n := 3 }
     s.Quiet ∧ s.settingsTaken = true ∧ (s.lane .lane0).watches (.stop 2) = true ∧ 1 ≤ s.settings.debounce
      ∧ ((s.lane .lane0).input (.stop 2)).debounced = some true ∧ (s.lane .lane0).watches (.stop 3) = false)
    ∧ (let s := quiet { up with settings := { up.settings with debounce := 0 } }
       s.Quiet ∧ s.settingsTaken = true ∧ (s.lane .lane0).watches .sSill = true ∧ s.settings.debounce = 0
        ∧ (s.lane .lane0).input .sSill = ⟨true, some true, none⟩)
    ∧ (let s := settling (unsettled .sSill)
       s.Quiet ∧ s.settingsTaken = true ∧ (s.lane .lane0).watches .sSill = true ∧ 1 ≤ s.settings.debounce
        ∧ ((s.lane .lane0).input .sSill).debounced = none) :=
  ⟨⟨quiet_is_quiet _, rfl, rfl, by decide, rfl, rfl⟩, ⟨quiet_is_quiet _, rfl, rfl, rfl, rfl⟩,
   quiet_is_quiet _, rfl, rfl, by decide, rfl⟩

/-- Edges that only settle: both sills clear, any edge in LOADING, and a stop eye that blocks in a FAULTED lane. -/
theorem witness_PinsAndTimersOnlySettleAnInput_edges :
    (∀ e, (edged e true id).Quiet ∧ ((edged e true id).lane .lane0).Edge e true
        ∧ ((edged e true id).lane .lane0).sEnd.state = .idle ∧ ((edged e true id).lane .lane0).lEnd.state = .idle)
      ∧ (let u := settling (turningTo (.stop 0) false)
         u.Quiet ∧ u.node = .loading ∧ ((u.lane .lane0).input (.stop 0)).debounced = some true)
      ∧ (let s := edged (.stop 2) false fun l => { l with state := .faulted }
         let l := s.lane .lane0
         s.Quiet ∧ l.Edge (.stop 2) false ∧ l.state = .faulted ∧ l.move = none ∧ l.sEnd.state = .idle ∧ l.lEnd.state = .idle) :=
  ⟨fun e => ⟨(edged_edge e true id).1, (edged_edge e true id).2.2, rfl, rfl⟩, ⟨quiet_is_quiet _, rfl, rfl⟩,
   quiet_is_quiet _, (edged_edge _ _ _).2.2, rfl, rfl, rfl, rfl⟩

/-- In a lane that flows: stop eye 3, the exit's, about to block with no record there, both sills about to block, and the eyes
under offered records about to clear. -/
theorem witness_UnexpectedEdgesRaiseTheirFaults :
    (∀ e high f, (edged e high f).Quiet ∧ (edged e high f).node = .running ∧ ((edged e high f).lane .lane0).Edge e high)
    ∧ (let l := (edged (.stop 3) false id).lane .lane0
       l.state = .running ∧ l.queue = [] ∧ l.move = none ∧ l.sEnd.state = .idle ∧ l.lEnd.state = .idle)
    ∧ (∀ k : Fin 4, (k = 3 ∨ k = 2) →
        let s := edged (.stop k) true offeredOut
        let l := s.lane .lane0
        l.state = .running ∧ l.recordAt k = some (toteAt (11 - k.val) k.val .offered) ∧ l.move = none
          ∧ l.sEnd.state = .idle ∧ l.lEnd.state = .offering ∧ l.dir = .outward ∧ l.lEnd.head = some ⟨some 8⟩
          ∧ l.lEnd.second = some ⟨some 9⟩ ∧ s.bus.urgent.length < 8)
    ∧ (let l := (edged (.stop 0) true offeredIn).lane .lane0
       l.recordAt 0 = some { toteAt 9 0 .offered with cls := none } ∧ l.dir = .inward ∧ l.sEnd.offer = some ⟨some 9⟩) := by
  refine ⟨edged_edge, ⟨rfl, rfl, rfl, rfl, rfl⟩, fun k hk => ?_, rfl, rfl, rfl⟩
  rcases hk with rfl | rfl <;> decide

/-- In RESERVED: stop eye 0 in a put, stop eye 3 in a give and the record of a take. -/
theorem witness_UnexpectedEdgesRaiseTheirFaults_reserved :
    (let l := (edged (.stop 0) false putHeld).lane .lane0
     l.Alive ∧ l.sEnd.state = .reserved ∧ l.move = none)
    ∧ (let l := (edged (.stop 3) false giving).lane .lane0
       l.Alive ∧ l.lEnd.state = .reserved ∧ l.lEnd.hand = some ⟨.give, ⟨some 9, .standard⟩, none, false⟩ ∧ l.n - 1 = 3
        ∧ l.move = none)
    ∧ (let l := (edged (.stop 3) true taking).lane .lane0
       l.Alive ∧ l.lEnd.state = .reserved ∧ l.lEnd.hand = some ⟨.take, ⟨some 9, .standard⟩, none, false⟩ ∧ l.n - 1 = 3
        ∧ l.move = none ∧ l.recordAt 3 = some (toteAt 9 3 .leaving)) :=
  ⟨⟨Or.inl rfl, rfl, rfl⟩, ⟨Or.inl rfl, rfl, rfl, rfl, rfl⟩, Or.inl rfl, rfl, rfl, rfl, rfl, rfl⟩

/-- A lane commanded or not, with a run of a class on its way. -/
def sampled (commanded : Bool) (k : CurrentClass) (count left : Nat) : State := withLane0 fun l =>
  { l with
    zones := if commanded then #v[.forward, .stop, .stop, .stop] else l.zones
    sensing := { l.sensing with runClass := k, runCount := count, settleLeft := left } }

theorem witness_SamplesAreCountedAndTheTakenClassJudged :
    (∀ b k left count, (sampled b k count left).Quiet ∧ (sampled b k count left).settingsTaken = true
        ∧ ((sampled b k count left).lane .lane0).state ≠ .disabled
        ∧ ((sampled b k count left).lane .lane0).sensing.settleLeft = left
        ∧ ((sampled b k count left).lane .lane0).sensing.runClass = k
        ∧ ((sampled b k count left).lane .lane0).sensing.runCount = count
        ∧ ((sampled b k count left).lane .lane0).sensing.noLoad = false
        ∧ ((sampled b k count left).lane .lane0).sensing.commanded = b
        ∧ (sampled b k count left).conf .lane0 = defaultLaneSettings)
      ∧ sampleClass defaultLaneSettings 49 = .below ∧ sampleClass defaultLaneSettings 50 = .inside
      ∧ sampleClass defaultLaneSettings 1500 = .inside ∧ sampleClass defaultLaneSettings 1501 = .above
      ∧ defaultLaneSettings.persistence = 5
      ∧ (let s := quiet { sampled true .inside 0 0 with
           node := .loading, settings := { defaultSettings with lane0 := { defaultLaneSettings with persistence := 1 } } }
         s.Quiet ∧ s.node = .loading ∧ (s.conf .lane0).persistence = 1 ∧ (s.lane .lane0).sensing.settleLeft = 0) := by
  refine ⟨fun b k left count => ⟨quiet_is_quiet _, rfl, nofun, rfl, rfl, rfl, rfl, ?_, rfl⟩, by decide, by decide, by decide,
    by decide, rfl, quiet_is_quiet _, rfl, rfl, rfl⟩
  cases b <;> rfl

theorem witness_MoveAndEntryTimersStopTheLane :
    (jammed.Quiet ∧ (jammed.lane .lane0).state = .running ∧ (jammed.lane .lane0).move.isSome = true
        ∧ (jammed.lane .lane0).moveTimer.isSome = true ∧ toteAt 5002 1 .moving ∈ (jammed.lane .lane0).queue)
      ∧ (putTransfer.Quiet ∧ (putTransfer.lane .lane0).sEnd.state = .transfer
        ∧ (putTransfer.lane .lane0).sEnd.hand = some (.put (some 9) .loose .standard)
        ∧ (putTransfer.lane .lane0).sEnd.timer.isSome = true ∧ (putTransfer.lane .lane0).lEnd.state = .idle
        ∧ putTransfer.bus.urgent.length < 8) :=
  ⟨⟨quiet_is_quiet _, rfl, rfl, rfl, by decide⟩, quiet_is_quiet _, rfl, rfl, rfl, rfl, by decide⟩

theorem witness_LaneFaultStopsTheLane : (jammed.lane .lane0).Alive ∧ jammed.bus.urgent.length + 3 ≤ 8
    ∧ jammed.bus.routine.length < 8 ∧ jammed.unlogged = [] ∧ jammed.log.first = none
    ∧ (jammed.log.kind .moveTimeout).masked = false :=
  ⟨Or.inl rfl, by decide, by decide, rfl, rfl, by decide⟩

/-- Two records, the one nearest the exit at it, and the other with its next position free. -/
def closing : State := withLane0 fun l =>
  { blockedAt (.stop 1) (blockedAt (.stop 3) l) with queue := [toteAt 1 3 .seated, toteAt 2 1 .seated] }

theorem witness_MoveStartsNearestTheExit :
    let l := closing.lane .lane0
    (l.queue = [toteAt 1 3 .seated] ++ toteAt 2 1 .seated :: [] ∧ (∀ q ∈ [toteAt 1 3 .seated], qualifies l q = false)
        ∧ qualifies l (toteAt 2 1 .seated) = true ∧ l.move = none ∧ l.state = .running ∧ l.effHold = false
        ∧ closing.node = .running ∧ l.nextPos 1 = 2 ∧ l.stopBlocked 2 = false)
      ∧ ((withLane0 fun _ => blockedAt (.stop 2) closing.lane0).lane .lane0).stopBlocked 2 = true
      ∧ (∀ r ∈ (up.lane .lane0).queue, qualifies (up.lane .lane0) r = false) ∧ (jammed.lane .lane0).move.isSome = true
      ∧ (freed.lane .lane0).state = .faulted ∧ State.reset.node = .loading := by
  decide

/-- Tote 2 on its way from 1 to 2, with tote 1 at the exit. -/
def moving (vacated : Bool) (l : Lane) : Lane :=
  { blockedAt (.stop 3) l with
    queue := [toteAt 1 3 .seated, toteAt 2 2 .moving], move := some ⟨1, 2, vacated⟩, moveTimer := some 2500
    zones := #v[.stop, .forward, .forward, .stop] }

/-- The source eye clears, the destination eye blocks late or early, and a record behind moves up next. -/
theorem witness_MoveEndsAtTheDestinationEye (v : Bool) :
    (∀ e high, (edged e high (moving v)).Quiet ∧ (edged e high (moving v)).node = .running
        ∧ ((edged e high (moving v)).lane .lane0).Edge e high
        ∧ ((edged e high (moving v)).lane .lane0).move = some ⟨1, 2, v⟩
        ∧ ((edged e high (moving v)).lane .lane0).Alive)
    ∧ (∀ r ∈ [toteAt 1 3 .seated, toteAt 2 2 .seated],
        qualifies { (moving true outLane) with queue := [toteAt 1 3 .seated, toteAt 2 2 .seated], move := none } r = false)
    ∧ (let l : Lane := { moving true (blockedAt (.stop 0) outLane) with
         queue := [toteAt 1 3 .seated, toteAt 2 2 .seated, toteAt 3 0 .seated], move := none }
       qualifies l (toteAt 3 0 .seated) = true ∧ l.stopBlocked (l.nextPos 0) = false ∧ l.lEnd.head = none) :=
  ⟨fun e high => ⟨(edged_edge e high _).1, (edged_edge e high _).2.1, (edged_edge e high _).2.2, rfl, Or.inl rfl⟩,
   by decide, by decide⟩

theorem witness_GroupOpenAndCloseSetTheEntry :
    (heading anOpen up).Quiet ∧ (heading anOpen up).TakesHead 0x18 anOpen [] ∧ anOpen.byte 0 ≠ 0
      ∧ (heading anOpen up).groups.length < 16
      ∧ (let full := (List.range 16).map fun j => (⟨BitVec.ofNat 8 (100 + j), .opened, 0, 4, 0, none⟩ : GroupEntry)
         (heading anOpen { up with groups := full }).entryOf (anOpen.byte 0) = none
          ∧ 16 ≤ (heading anOpen { up with groups := full }).groups.length)
      ∧ (heading anOpen grouped).entryOf (anOpen.byte 0) = some ⟨7, .opened, 10, 32, 2, none⟩
      ∧ (let s := heading aClose grouped
         s.Quiet ∧ s.TakesHead 0x19 aClose [] ∧ s.GroupLaw ∧ s.entryOf (aClose.byte 0) = some ⟨7, .opened, 10, 32, 2, none⟩)
      ∧ (heading aClose up).entryOf (aClose.byte 0) = none :=
  ⟨quiet_is_quiet _, takes_head _ _ (Or.inr rfl), by decide, by decide, by decide, by decide,
   ⟨quiet_is_quiet _, takes_head _ _ (Or.inr rfl), grouped_law, by decide⟩, by decide⟩

theorem witness_PassedUpdatesItsEntry :
    let s := heading (aPassed 42 10) grouped
    s.Quiet ∧ s.GroupLaw ∧ s.TakesHead 0x1A (aPassed 42 10) []
      ∧ s.entryOf ((aPassed 42 10).byte 0) = some ⟨7, .opened, 10, 32, 2, none⟩ ∧ distance 10 ((aPassed 42 10).seq 1) = 32
      ∧ (heading (aPassed 42 10) up).entryOf ((aPassed 42 10).byte 0) = none ∧ up.groups.length < 16
      ∧ (heading (aPassed 0 0) { up with groups := [⟨7, .closed, 10, 32, 2, none⟩] }).entryOf 7
          = some ⟨7, .closed, 10, 32, 2, none⟩ :=
  ⟨quiet_is_quiet _, grouped_law, takes_head _ _ (Or.inr rfl), by decide, by decide, by decide, by decide, by decide⟩

theorem witness_ReleaseClassesFollowTheTable :
    let t : Tote := { toteAt 5 0 .seated with kind := .grouped 7 41 }
    t.kind = .grouped 7 41 ∧ t.id ≠ none ∧ distance 10 41 = 31 ∧ (31 : Nat) < 32 ∧ (2 : BitVec 32).getLsbD 31 = false
      ∧ (2 : BitVec 32).getLsbD (distance 10 11) = true ∧ distance 10 42 = 32 ∧ distance 10 9 = 4095
      ∧ distance 10 2057 = 2047 ∧ distance 10 2058 = 2048
      ∧ (State.reset.lane .lane0).dir = .outward
      ∧ ((State.reset.setLane .lane0 { Lane.initial true with dir := .inward }).lane .lane0).dir = .inward := by decide

/-- Group 7 with its cursor at 10, and tote 8 of it with seq 11 at the exit: offered in the window, or seated ahead of it. -/
def classed (window : Nat) (offered : Bool) : State :=
  let r : Tote :=
    { toteAt 8 3 (if offered then .offered else .seated) with
      kind := .grouped 7 11, cls := some (if offered then .inWindow else .ahead) }
  { withLane0 fun l =>
      { blockedAt (.stop 3) l with
        queue := [r], lEnd := if offered then { l.lEnd with state := .offering, head := some ⟨some 8⟩ } else l.lEnd } with
    groups := [⟨7, .opened, 10, window, 0, none⟩] }

/-- A GROUP OPEN with a window of 1 takes the offer back, and a PASSED of 10 brings the tote into a window of 1. -/
theorem witness_ReclassificationReachesTheOffers :
    (let f := frameOf 3 4 .groupOpen [7, 0, 10, 1, 0, 0]
     let s := heading f (classed 4 true)
     let l := s.lane .lane0
     s.Quiet ∧ s.TakesHead 0x18 f [] ∧ s.bus.urgent = [] ∧ l.dir = .outward ∧ l.lEnd.head = some ⟨some 8⟩
      ∧ (l.recordAt 3).map mayLeave = some true ∧ ((nextOf .groupOpen s).lane0.recordAt 3).map mayLeave = some false)
    ∧ (let s := heading (aPassed 10 10) (classed 1 false)
       let l := s.lane .lane0
       s.Quiet ∧ s.TakesHead 0x1A (aPassed 10 10) [] ∧ (l.recordAt 3).map mayLeave = some false ∧ l.lEnd.state = .idle
        ∧ l.lEnd.head = none ∧ l.state = .running ∧ l.effHold = false ∧ s.available (liftPeer .lane0) = true
        ∧ (∀ q ∈ l.queue, q.state ≠ .offered)
        ∧ ((nextOf .passed s).lane0.recordAt 3).map mayLeave = some true) :=
  ⟨⟨quiet_is_quiet _, takes_head _ _ (Or.inr rfl), rfl, rfl, rfl, by decide, by decide⟩,
   quiet_is_quiet _, takes_head _ _ (Or.inr rfl), by decide, rfl, rfl, rfl, rfl, by decide, by decide, by decide⟩

/-- Offers due at the exit, behind a standing head and at the shuttle end, held or not, and offers to repeat. -/
theorem witness_OffersAreMadeAndRepeated (held : Bool) :
    (let l : Lane := { blockedAt (.stop 3) outLane with queue := [toteAt 8 3 .seated], effHold := held }
     l.recordAt (l.n - 1) = some (toteAt 8 3 .seated) ∧ l.lEnd.head = none ∧ l.dir = .outward
      ∧ mayLeave (toteAt 8 3 .seated) = true ∧ l.lEnd.state = .idle ∧ l.state = .running ∧ l.effHold = held)
    ∧ (let l : Lane := { offeredOut outLane with
         queue := [toteAt 8 3 .offered, toteAt 9 2 .seated]
         lEnd := { LiftEnd.initial with state := .offering, head := some ⟨some 8⟩ } }
       l.recordAt (l.n - 2) = some (toteAt 9 2 .seated) ∧ l.lEnd.head.isSome = true ∧ l.lEnd.second = none)
    ∧ (let l : Lane := { inLane with queue := [{ toteAt 9 0 .seated with cls := none }] }
       l.recordAt 0 = some { toteAt 9 0 .seated with cls := none } ∧ l.dir = .inward ∧ l.sEnd.state = .idle)
    ∧ (∀ p, (up.peer p).state = .present ∧ (up.peer p).inService = true)
    ∧ (let s := { withLane0 offeredOut with bus := { up.bus with beaconTimer := some 100 } }
       s.Quiet ∧ s.node = .running ∧ s.bus.beaconTimer.isSome = true ∧ s.bus.urgent.length + 6 ≤ 8
        ∧ (s.lane .lane0).lEnd.state = .offering ∧ (s.lane .lane0).lEnd.second.isSome = true)
    ∧ ((withLane0 offeredIn).lane .lane0).sEnd.state = .offering :=
  ⟨⟨rfl, rfl, rfl, rfl, rfl, rfl, rfl⟩, ⟨rfl, rfl, rfl⟩, ⟨rfl, rfl, rfl⟩, fun p => by cases p <;> decide,
   ⟨quiet_is_quiet _, rfl, rfl, by decide, rfl, rfl⟩, rfl⟩

theorem witness_RequestIsAnsweredByTheFirstCheck :
    (let f := { aPut with src := 70 }
     (heading f up).Quiet ∧ (heading f up).bus.urgent.length < 8 ∧ (heading f up).TakesHead 0x0C f []
      ∧ f.byte 1 = wireLane .lane0 ∧ firstMatch (putRows (heading f up) .lane0 f) = some 8)
    ∧ ((heading aFetch up).Quiet ∧ (heading aFetch up).TakesHead 0x0D aFetch []
      ∧ firstMatch (fetchRows (heading aFetch up) .lane0 aFetch) = some 7)
    ∧ (let s := heading { aTake 1 with payload := [7, 0, 1, 0, 0, 0, 9] } (withLane0 taking)
       s.Quiet ∧ s.bus.urgent.length < 8
        ∧ firstMatch (takeRows s .lane0 { aTake 1 with payload := [7, 0, 1, 0, 0, 0, 9] }) = some 0
        ∧ countInHand (s.lane .lane0) = 1)
    ∧ ((heading aGive up).TakesHead 0x0B aGive [] ∧ firstMatch (giveRows (heading aGive up) .lane0 aGive) = some 7) :=
  ⟨⟨quiet_is_quiet _, by decide, takes_head _ _ (Or.inr rfl), by decide, by decide⟩,
   ⟨quiet_is_quiet _, takes_head _ _ (Or.inr rfl), by decide⟩,
   ⟨quiet_is_quiet _, by decide, by decide, by decide⟩, takes_head _ _ (Or.inr rfl), by decide⟩

theorem witness_PutAndFetchAreAccepted :
    ((heading aPut up).Quiet ∧ (heading aPut up).bus.urgent.length < 8 ∧ (heading aPut up).TakesHead 0x0C aPut []
      ∧ aPut.byte 1 = wireLane .lane0 ∧ firstMatch (putRows (heading aPut up) .lane0 aPut) = none)
    ∧ (let s := heading aFetch (withLane0 offeredIn)
       s.Quiet ∧ s.bus.urgent.length < 8 ∧ s.TakesHead 0x0D aFetch [] ∧ firstMatch (fetchRows s aFetch.lane aFetch) = none) :=
  ⟨⟨quiet_is_quiet _, by decide, takes_head _ _ (Or.inr rfl), by decide, by decide⟩,
   quiet_is_quiet _, by decide, takes_head _ _ (Or.inr rfl), by decide⟩

theorem witness_PutToEitherLaneChoosesOne :
    let f := frameOf 2 71 .put [7, 2, 0, 0, 0, 9, 1, 0, 0, 0]
    (heading f up).TakesHead 0x0C f [] ∧ f.byte 1 ≠ 0 ∧ f.byte 1 ≠ 1 := ⟨takes_head _ _ (Or.inr rfl), by decide, by decide⟩

/-- The S-sill blocks in a RESERVED put, the entered tote's sill clears with stop eye 0 blocked, and a fetched tote's with it
clear. -/
theorem witness_ShuttleTransferEndsAtItsEyes :
    (∀ e high f, (edged e high f).Quiet ∧ (edged e high f).node = .running ∧ ((edged e high f).lane .lane0).Edge e high)
    ∧ ((edged .sSill false putHeld).lane .lane0).sEnd.state = .reserved
    ∧ (let s := edged .sSill true fun l => blockedAt (.stop 0) (entering l)
       let l := s.lane .lane0
       l.sEnd = ⟨.transfer, some (.put (some 9) .loose .standard), none, some 2500⟩ ∧ l.dir = .outward
        ∧ l.stopBlocked 0 = true ∧ s.bus.urgent.length < 8)
    ∧ (∀ p, let l := (edged .sSill true fun l =>
          { fetching l with sEnd := ⟨.transfer, some (.fetch (some 9) p), none, some 5000⟩ }).lane .lane0
        l.sEnd.state = .transfer ∧ l.sEnd.hand = some (.fetch (some 9) p) ∧ l.stopBlocked 0 = false ∧ l.move = none) :=
  ⟨edged_edge, rfl, ⟨rfl, rfl, rfl, by decide⟩, fun _ => ⟨rfl, rfl, rfl, rfl⟩⟩

theorem witness_ShuttleWindowsEndTheHandover :
    (putReserved.Quiet ∧ putReserved.bus.urgent.length < 8 ∧ (putReserved.lane .lane0).dir = .outward
        ∧ (putReserved.lane .lane0).sEnd = ⟨.reserved, some (.put (some 9) .loose .standard), none, some 5000⟩)
      ∧ (let l := (withLane0 fun l => putHeld (blockedAt .sSill l)).lane .lane0
         l.state = .running ∧ l.blocked .sSill = true)
      ∧ (let s := withLane0 fetching
         s.Quiet ∧ (s.lane .lane0).sEnd = ⟨.transfer, some (.fetch (some 9) false), none, some 5000⟩
          ∧ (s.lane .lane0).stopBlocked 0 = false ∧ (s.lane .lane0).Alive ∧ (s.lane .lane0).lEnd.state = .idle)
      ∧ (let s := withLane0 fun l => blockedAt (.stop 0) (fetching l)
         (s.lane .lane0).blocked .sSill = false ∧ (s.lane .lane0).stopBlocked 0 = true) :=
  ⟨⟨quiet_is_quiet _, by decide, rfl, rfl⟩, ⟨rfl, rfl⟩, ⟨quiet_is_quiet _, rfl, by decide, Or.inl rfl, rfl⟩, by decide⟩

theorem witness_TakeAndGiveAreAccepted (count : Nat) (h : count = 1 ∨ count = 2) :
    (let s := heading (aTake count) (withLane0 offeredOut)
     s.Quiet ∧ s.bus.urgent.length + 1 < 8 ∧ s.TakesHead 0x0A (aTake count) []
      ∧ firstMatch (takeRows s (aTake count).lane (aTake count)) = none)
    ∧ (let s := heading aGive (withLane0 fun _ => inLane)
       s.Quiet ∧ s.bus.urgent.length < 8 ∧ s.TakesHead 0x0B aGive [] ∧ firstMatch (giveRows s aGive.lane aGive) = none) := by
  refine ⟨?_, quiet_is_quiet _, by decide, takes_head _ _ (Or.inr rfl), by decide⟩
  rcases h with rfl | rfl <;> exact ⟨quiet_is_quiet _, by decide, takes_head _ _ (Or.inr rfl), by decide⟩

theorem witness_AlignmentLeadsToGo :
    (let s := heading anAligned (withLane0 taking)
     s.Quiet ∧ s.TakesHead 0x0F anAligned [] ∧ anAligned.src = liftNode .lane0 ∧ (s.lane .lane0).lEnd.state = .reserved
      ∧ (s.lane .lane0).lEnd.hand.isSome = true ∧ (s.lane .lane0).lEnd.inputFlag = true ∧ s.bus.urgent.length < 8)
    ∧ ((up.lane .lane0).lEnd.state ≠ .reserved)
    ∧ (∀ high f, (edged .aligned high f).Quiet ∧ (edged .aligned high f).node = .running
        ∧ ((edged .aligned high f).lane .lane0).Edge .aligned high)
    ∧ (∀ b, let l := (edged .aligned true fun l => { taking l with lEnd := { (taking l).lEnd with frameFlag := b } }).lane .lane0
        l.lEnd.state = .reserved ∧ l.lEnd.hand = some ⟨.take, ⟨some 9, .standard⟩, none, false⟩ ∧ l.lEnd.frameFlag = b)
    ∧ (∀ sp, let l := (edged .aligned false fun l =>
          { transferring l with tracker := { (transferring l).tracker with span := sp } }).lane .lane0
        l.lEnd.state = .transfer ∧ l.tracker.span = sp ∧ l.Alive) :=
  ⟨⟨quiet_is_quiet _, takes_head _ _ (Or.inr rfl), rfl, rfl, rfl, rfl, by decide⟩, nofun, edged_edge .aligned,
   fun _ => ⟨rfl, rfl, rfl⟩, fun _ => ⟨rfl, rfl, Or.inl rfl⟩⟩

def shuttleAbort : Frame := frameOf 2 71 .abort [7, 2, 0]

theorem witness_AbortEndsTheHandover :
    (let s := heading anAbort (withLane0 taking)
     s.Quiet ∧ s.TakesHead 0x11 anAbort [] ∧ anAbort.laneEnd = .liftEnd ∧ anAbort.src = liftNode .lane0
      ∧ (s.lane .lane0).lEnd.state = .reserved
      ∧ (s.lane .lane0).lEnd.hand = some ⟨.take, ⟨some 9, .standard⟩, none, false⟩)
    ∧ ((heading anAbort (withLane0 transferring)).lane .lane0).lEnd.state = .transfer
    ∧ (let s := heading shuttleAbort putReserved
       s.Quiet ∧ s.TakesHead 0x11 shuttleAbort [] ∧ shuttleAbort.laneEnd = .shuttleEnd ∧ shuttleAbort.src = s.shuttleNode
        ∧ (s.lane .lane0).sEnd.state = .reserved ∧ (s.lane .lane0).dir = .outward ∧ s.bus.urgent.length + 1 < 8)
    ∧ (let l := (heading shuttleAbort putTransfer).lane .lane0
       l.sEnd.state = .transfer ∧ l.blocked .sSill = true ∧ l.Alive)
    ∧ (let l := (heading shuttleAbort (withLane0 fetching)).lane .lane0
       l.sEnd.state = .transfer ∧ l.sEnd.hand = some (.fetch (some 9) false) ∧ l.stopBlocked 0 = false ∧ l.Alive)
    ∧ ((up.lane .lane0).lEnd.state = .idle ∧ (up.lane .lane0).sEnd.state = .idle) :=
  ⟨⟨quiet_is_quiet _, takes_head _ _ (Or.inr rfl), by decide, rfl, rfl, rfl⟩, rfl,
   ⟨quiet_is_quiet _, takes_head _ _ (Or.inr rfl), by decide, by decide, rfl, rfl, by decide⟩, ⟨rfl, rfl, Or.inl rfl⟩,
   ⟨rfl, rfl, rfl, Or.inl rfl⟩, rfl, rfl⟩

theorem witness_AlignWindowLapsesTheHandover :
    (withLane0 taking).Quiet ∧ (withLane0 taking).bus.urgent.length < 8
      ∧ ((withLane0 taking).lane .lane0).lEnd.state = .reserved
      ∧ ((withLane0 taking).lane .lane0).lEnd.hand = some ⟨.take, ⟨some 9, .standard⟩, none, false⟩
      ∧ ((withLane0 taking).lane .lane0).lEnd.timer.isSome = true
      ∧ (let l := (withLane0 fun l => taking (blockedAt .lSill l)).lane .lane0
         l.lEnd.timer.isSome = true ∧ l.state = .running ∧ l.blocked .lSill = true) :=
  ⟨quiet_is_quiet _, by decide, rfl, rfl, rfl, rfl, rfl, rfl⟩

/-- The records that ABORT, the align window and a lost alignment restore: of a RESERVED take of two, and of one in TRANSFER. A
fetch's stands at position 0 of its IN lane. -/
theorem witness_restored_records :
    (let l := ({ taking outLane with queue := [toteAt 8 3 .leaving, toteAt 9 2 .leaving] } : Lane)
     l.HeldToTake (toteAt 8 3 .leaving) ∧ l.HeldToTake (toteAt 9 2 .leaving))
    ∧ (let l := transferring outLane
       l.dir = .outward ∧ (l.queue.filter (·.state == .leaving)).zip ([l.n - 1].filter l.stopBlocked) = [(toteAt 9 3 .leaving, 3)])
    ∧ (let l := fetching outLane
       l.dir = .inward ∧ ∃ r ∈ l.queue, r.state = .leaving ∧ r.pos = 0) :=
  ⟨⟨⟨by decide, rfl, rfl, Or.inl rfl⟩, by decide, rfl, rfl, Or.inr ⟨rfl, by decide⟩⟩, ⟨rfl, by decide⟩, rfl, by decide⟩

/-- T2 of one tote at its early limit 180 + 1200 - 40, T2 of two totes, and G3 at its late limit 250 + 1950 + 80. -/
theorem witness_TransferEndsAtItsLastTarget :
    (∀ e high f, (edged e high f).Quiet ∧ (edged e high f).node = .running ∧ ((edged e high f).lane .lane0).Edge e high)
    ∧ (let s := edged .lSill true (atTarget .t2 1340 transferring)
       let t := (s.lane .lane0).tracker
       (s.lane .lane0).lEnd.hand = some ⟨.take, ⟨some 9, .standard⟩, none, false⟩ ∧ t.running = true
        ∧ t.job = some ⟨.take, .standard, none⟩ ∧ t.active = some .t2 ∧ measureAt ⟨.take, .standard, none⟩ t.count = 1340
        ∧ wantAt (s.conf .lane0) t ⟨.take, .standard, none⟩ .t2 - tolAt (s.conf .lane0) .t2 = 1340)
    ∧ (let s := edged .lSill true (atTarget .t2 1380 transferringTwo)
       (s.lane .lane0).lEnd.state = .transfer ∧ (s.lane .lane0).tracker.job = some ⟨.take, .standard, some .standard⟩
        ∧ inList ⟨.take, .standard, some .standard⟩ .t2 = true ∧ ∀ r ∈ (s.lane .lane0).queue, r.state ≠ .seated)
    ∧ (let s := edged (.stop 3) false (atTarget .g3 (-2280) receiving)
       let t := (s.lane .lane0).tracker
       (s.lane .lane0).lEnd.hand = some ⟨.give, ⟨some 9, .standard⟩, none, false⟩ ∧ (s.lane .lane0).dir = .inward
        ∧ (s.lane .lane0).move = none ∧ inList ⟨.give, .standard, none⟩ .g3 = true
        ∧ wantAt (s.conf .lane0) t ⟨.give, .standard, none⟩ .g3 + tolAt (s.conf .lane0) .g3
            = measureAt ⟨.give, .standard, none⟩ t.count) :=
  ⟨edged_edge, ⟨rfl, rfl, rfl, rfl, by decide, by decide⟩, ⟨rfl, rfl, rfl, by decide⟩, rfl, rfl, rfl, rfl, by decide⟩

/-- The count of a tracker and its first target, its encoder reference at the inputs. -/
def counting (count : Int) : State := withLane0 (atTarget .t1 count transferring)

/-- T1's late limit is 180 + 40, T2's run-out limit 180 + 1200 + 160, the lower one -160, and the count's limit 32767: each with the
count one edge before it and at it. -/
theorem witness_EncoderEdgeMovesTheCount (x : Int) :
    (let s := counting x
     let t := (s.lane .lane0).tracker
     s.Quiet ∧ t.running = true ∧ t.refA = (s.lane .lane0).encA ∧ t.refB = (s.lane .lane0).encB ∧ (s.lane .lane0).Alive
        ∧ t.job = some ⟨.take, .standard, none⟩ ∧ t.active = some .t1 ∧ t.count = x)
      ∧ (let s := counting x
         let t := (s.lane .lane0).tracker
         wantAt (s.conf .lane0) t ⟨.take, .standard, none⟩ .t1 + tolAt (s.conf .lane0) .t1 = 220
          ∧ wantAt (s.conf .lane0) t ⟨.take, .standard, none⟩ .t2 + 4 * (s.conf .lane0).tol = 1540
          ∧ -(4 * ((s.conf .lane0).tol : Int)) = -160)
      ∧ edgeSense .a false false = 1 ∧ edgeSense .b false false = -1
      ∧ (up.lane .lane0).tracker.running = false := by
  refine ⟨⟨quiet_is_quiet _, rfl, rfl, rfl, Or.inl rfl, rfl, rfl, rfl⟩, ⟨?_, ?_, ?_⟩, by decide, by decide, rfl⟩ <;> rfl

/-- A transfer with its held class, mode and time-out note set. -/
def tracked (k : CurrentClass) (untracked timedOut : Bool) : State := withLane0 fun l =>
  { transferring l with
    sensing := { (transferring l).sensing with heldClass := k }
    tracker := { (transferring l).tracker with
      untracked := untracked, timedOut := timedOut, stall := if untracked then none else some 250 } }

theorem witness_TrackerTimersActByModeAndCurrent (k : CurrentClass) (u o : Bool) :
    let l := (tracked k u o).lane .lane0
    (tracked k u o).Quiet ∧ l.tracker.running = true ∧ l.state = .running ∧ l.tracker.untracked = u
      ∧ l.tracker.stall.isSome = !u ∧ l.sensing.heldClass = k ∧ l.tracker.timedOut = o ∧ l.tracker.transfer.isSome = true := by
  refine ⟨quiet_is_quiet _, rfl, rfl, rfl, ?_, rfl, rfl, rfl⟩
  cases u <;> rfl

/-- T1 at its early limit, 180 - 40, and one count before it. The L-sill blocks again in SPAN, and stop eye 3 in a give
before G3. -/
theorem witness_TargetsAreJudgedByTheirWindows (x : Int) :
    (∀ e high f, (edged e high f).Quiet ∧ (edged e high f).node = .running ∧ ((edged e high f).lane .lane0).Edge e high)
    ∧ (let s := edged .lSill false (atTarget .t1 x transferring)
       let l := s.lane .lane0
       l.lEnd.state = .transfer ∧ l.lEnd.hand = some ⟨.take, ⟨some 9, .standard⟩, none, false⟩ ∧ l.tracker.running = true
        ∧ l.tracker.untracked = false ∧ l.tracker.job = some ⟨.take, .standard, none⟩ ∧ l.tracker.active = some .t1
        ∧ l.tracker.count = x ∧ l.Alive ∧ inList ⟨.take, .standard, none⟩ .t1 = true
        ∧ wantAt (s.conf .lane0) l.tracker ⟨.take, .standard, none⟩ .t1 - tolAt (s.conf .lane0) .t1 = 140)
    ∧ (let l := (edged .lSill false (atTarget .t2 x transferring)).lane .lane0
       l.tracker.active = some .t2 ∧ inList ⟨.take, .standard, none⟩ .t2 = true ∧ blocksAt .t2 = false)
    ∧ (let l := (edged (.stop 3) false (atTarget .g2 x receiving)).lane .lane0
       l.lEnd.hand = some ⟨.give, ⟨some 9, .standard⟩, none, false⟩ ∧ l.tracker.job = some ⟨.give, .standard, none⟩
        ∧ inList ⟨.give, .standard, none⟩ .g2 = true ∧ l.n = 4 ∧ l.move = none ∧ l.Alive) :=
  ⟨edged_edge, ⟨rfl, rfl, rfl, rfl, rfl, rfl, rfl, Or.inl rfl, rfl, rfl⟩, ⟨rfl, rfl, rfl⟩, rfl, rfl, rfl, rfl, rfl, Or.inl rfl⟩

/-- A reversible OUT lane with this queue, the shuttle in this state. -/
def turnable (q : List Tote) (p : PeerState) : State :=
  heading aTurn (quiet { (withLane0 fun l => { l with kind := .reversible, queue := q }) with
    peers := Vector.replicate 7 ⟨p, true, none⟩ })

theorem witness_TurnIsAnsweredAndBegins (q : List Tote) (p : PeerState) :
    (let s := heading aTurn up
     s.Quiet ∧ s.bus.urgent.length + 1 < 8 ∧ s.TakesHead 0x14 aTurn [] ∧ firstMatch (turnRows s .lane0 aTurn) = some 11)
    ∧ (let s := heading aTurn (withLane0 fun _ => inLane)
       s.Quiet ∧ s.TakesHead 0x14 aTurn [] ∧ firstMatch (turnRows s .lane0 aTurn) = none
        ∧ askedDir (s.lane .lane0) aTurn = (s.lane .lane0).dir)
    ∧ (let s := turnable q p
       s.Quiet ∧ s.bus.urgent.length + 1 < 8 ∧ s.TakesHead 0x14 aTurn [] ∧ firstMatch (turnRows s .lane0 aTurn) = none
        ∧ askedDir (s.lane .lane0) aTurn ≠ (s.lane .lane0).dir ∧ (s.lane .lane0).queue = q
        ∧ (s.lane .lane0).sEnd.state = .idle ∧ (s.lane .lane0).lEnd.state = .idle ∧ (s.peer .shuttle).state = p) :=
  ⟨⟨quiet_is_quiet _, by decide, takes_head _ _ (Or.inr rfl), by decide⟩,
   ⟨quiet_is_quiet _, takes_head _ _ (Or.inr rfl), by decide, by decide⟩,
   quiet_is_quiet _, show 0 + 1 < 8 from by decide, takes_head _ _ (Or.inr rfl), rfl, nofun, rfl, rfl, rfl, rfl⟩

theorem witness_AnswerAndTimersEndTheTurnaround :
    (let s := heading (anAnswer 1) (withLane0 turning)
     s.Quiet ∧ s.TurningLaw ∧ s.bus.urgent.length < 8 ∧ s.TakesHead 0x16 (anAnswer 1) [] ∧ (s.lane .lane0).state = .turning
      ∧ (s.lane .lane0).turnaround = some ⟨.lift, .inward, true, none, some 2000⟩ ∧ (anAnswer 1).src = s.shuttleNode
      ∧ (s.lane .lane0).blocked .sSill = false ∧ (s.lane .lane0).blocked .lSill = false)
    ∧ (let s := heading (anAnswer 1) (withLane0 fun l => blockedAt (.stop 0) (turning l))
       (s.lane .lane0).stopBlocked 0 = true)
    ∧ ((withLane0 draining).Quiet ∧ ((withLane0 draining).lane .lane0).state = .draining
      ∧ ((withLane0 draining).lane .lane0).turnaround = some ⟨.lift, .inward, false, some 30000, none⟩)
    ∧ (up.lane .lane0).state ≠ .turning := by
  refine ⟨⟨quiet_is_quiet _, ?_, by decide, takes_head _ _ (Or.inr rfl), rfl, rfl, by decide, by decide, by decide⟩, by decide,
    ⟨quiet_is_quiet _, rfl, rfl⟩, nofun⟩
  exact witness_StepKeepsTurningLanesEmpty.1

/-- Eight holders, none of them node 20. -/
def eightHolders : List NodeId := (List.range 8).map fun j => BitVec.ofNat 7 (30 + j)

theorem witness_HoldFramesSetAndClearTheHolds :
    ((heading (aLaneHold 2) up).Quiet ∧ (heading (aLaneHold 2) up).bus.urgent.length < 8
        ∧ (heading (aLaneHold 2) up).TakesHead 0x20 (aLaneHold 2) [])
      ∧ ((heading (aLaneRelease 3) up).Quiet ∧ (heading (aLaneRelease 3) up).TakesHead 0x21 (aLaneRelease 3) []
        ∧ ((aLaneRelease 3).byte 1).getLsbD 0 = true ∧ ((aLaneRelease 3).byte 1).getLsbD 1 = true)
      ∧ (∀ hs, (heading anAisleHold { up with holders := hs }).Quiet
        ∧ (heading anAisleHold { up with holders := hs }).TakesHead 0x04 anAisleHold [])
      ∧ anAisleHold.src ∈ [(20 : NodeId)] ∧ anAisleHold.src ∉ eightHolders.take 7 ∧ (eightHolders.take 7).length < 8
      ∧ anAisleHold.src ∉ eightHolders ∧ 8 ≤ eightHolders.length
      ∧ (∀ all, (heading (anAisleRelease all) up).Quiet
        ∧ (heading (anAisleRelease all) up).TakesHead 0x05 (anAisleRelease all) [])
      ∧ ((anAisleRelease 1).byte 0).getLsbD 0 = true ∧ ((anAisleRelease 0).byte 0).getLsbD 0 = false :=
  ⟨⟨quiet_is_quiet _, by decide, takes_head _ _ (Or.inr rfl)⟩,
   ⟨quiet_is_quiet _, takes_head _ _ (Or.inr rfl), by decide, by decide⟩,
   fun _ => ⟨quiet_is_quiet _, takes_head _ _ (Or.inr rfl)⟩, by decide, by decide, by decide, by decide, by decide,
   fun _ => ⟨quiet_is_quiet _, takes_head _ _ (Or.inr rfl)⟩, by decide, by decide⟩

/-- A LANE HOLD of lane 0 alone, with lane 0 in any condition, and a LANE RELEASE of it that makes a latched offer. -/
theorem witness_HoldsReachTheEndsAndTheTurnaround :
    (∀ g : Lane → Lane, (heading (aLaneHold 1) (withLane0 g)).Quiet
        ∧ (heading (aLaneHold 1) (withLane0 g)).bus.urgent.length + 7 ≤ 8
        ∧ (heading (aLaneHold 1) (withLane0 g)).TakesHead 0x20 (aLaneHold 1) [])
    ∧ ((aLaneHold 1).byte 1).getLsbD 0 = true ∧ ((aLaneHold 1).byte 1).getLsbD 1 = false
    ∧ (let at0 (g : Lane → Lane) := (heading (aLaneHold 1) (withLane0 g)).lane .lane0
       (at0 offeredOut).effHold = false ∧ (at0 offeredOut).lEnd.state = .offering ∧ (at0 offeredIn).sEnd.state = .offering
        ∧ (at0 putHeld).sEnd.state = .reserved ∧ (at0 taking).lEnd.state = .reserved ∧ (at0 entering).sEnd.state = .transfer
        ∧ (at0 transferring).lEnd.state = .transfer ∧ (at0 draining).turnaround.isSome = true
        ∧ (at0 draining).state = .draining ∧ (at0 turning).turnaround.isSome = true ∧ (at0 turning).state = .turning)
    ∧ (let s := heading (aLaneRelease 1) (withLane0 fun l =>
         { blockedAt (.stop 3) l with queue := [toteAt 9 3 .seated], laneHold := true, lLatch := true })
       let l := s.lane .lane0
       s.Quiet ∧ s.TakesHead 0x21 (aLaneRelease 1) [] ∧ l.effHold = true ∧ s.levelHold = false ∧ s.holders = []
        ∧ s.overflow = false ∧ l.lLatch = true ∧ l.dir = .outward ∧ l.lEnd.state = .idle ∧ l.lEnd.head = none
        ∧ l.recordAt (l.n - 1) = some (toteAt 9 3 .seated) ∧ mayLeave (toteAt 9 3 .seated) = true ∧ l.state = .running
        ∧ s.available (liftPeer .lane0) = true)
    ∧ (let l := (heading (aLaneRelease 1) (withLane0 fun l =>
         { l with dir := .inward, queue := [{ toteAt 9 0 .seated with cls := none }], laneHold := true, sLatch := true })).lane .lane0
       l.sLatch = true ∧ l.effHold = true ∧ l.dir = .inward ∧ l.sEnd.state = .idle
        ∧ l.recordAt 0 = some { toteAt 9 0 .seated with cls := none } ∧ up.available .shuttle = true) :=
  ⟨fun _ => ⟨quiet_is_quiet _, show 0 + 7 ≤ 8 by decide, takes_head _ _ (Or.inr rfl)⟩, by decide, by decide,
   ⟨rfl, rfl, rfl, rfl, rfl, rfl, rfl, rfl, rfl, rfl, rfl⟩,
   ⟨quiet_is_quiet _, takes_head _ _ (Or.inr rfl), rfl, rfl, rfl, rfl, rfl, rfl, rfl, rfl, rfl, rfl, rfl, rfl⟩,
   rfl, rfl, rfl, rfl, rfl, rfl⟩

/-- The shuttle lost with lane 0 TURNING, its proposal to the shuttle and stop eye 1 BLOCKED, lane 1 with a put RESERVED, and PHANTOM
set to escalate. -/
def lossBesideEscalation : State :=
  let s := withLane0 fun l => blockedAt (.stop 1) (turning l)
  quiet { s with
    lane1 := { outLane with
      queue := [toteAt 9 0 .entering], sEnd := ⟨.reserved, some (.put (some 9) .loose .standard), none, some 5⟩ }
    log := { s.log with kinds := s.log.kinds.set 2 { s.log.kind .phantom with escalate := true } }
    peers := s.peers.set 2 ⟨.lost, false, none⟩ }

/-- The END frames of lane 1 that wait to be sent: the ending's code and its reason. -/
def endsOfLane1 (s : State) : List (Byte × Byte) :=
  (s.bus.urgent.filter fun f => f.code == kindCode .ended && f.lane == .lane1).map fun f => (f.byte 2, f.byte 3)

/-- R157: the loss ends lane 0's turnaround with PHANTOM, which escalates. Lane 1's end has the loss to take and now the hold: LAPSED
HELD where the hold is taken first, and LAPSED PEER_LOST where the loss is. -/
theorem test_hold_and_loss_in_either_order :
    let t := turnPeerLost .lane0 lossBesideEscalation
    let h := (logEscalations t).refreshHolds
    t.escalationWaits = true ∧ (peerActions lossBesideEscalation .shuttle .lost .lane1).length = 1
      ∧ (logEscalations t).holdsDue.length = 1 ∧ h.lane1.effHold = true
      ∧ endsOfLane1 (shuttlePeerAction .lane1 .lost (shuttleHoldSets .lane1 h)) = [(1, 3)]
      ∧ endsOfLane1 (shuttleHoldSets .lane1 (shuttlePeerAction .lane1 .lost h)) = [(1, 4)] := by decide

theorem witness_PeerChangesReachTheLanes :
    (((up.peer .liftA).timer.isSome = true ∧ (up.peer .liftA).state = .present)
      ∧ (let s := up.setPeer .liftA ⟨.late, true, some 500⟩
         (s.peer .liftA).timer.isSome = true ∧ (s.peer .liftA).state = .late))
    ∧ ((withLane0 turning).TurningLaw ∧ (withLane0 turning).Quiet
      ∧ ((withLane0 turning).lane .lane0).turnaround = some ⟨.lift, .inward, true, none, some 2000⟩)
    ∧ (∀ g : Lane → Lane, (withLane0 g).Quiet ∧ (withLane0 g).bus.urgent.length + 7 ≤ 8)
    ∧ ((withLane0 offeredOut).lane .lane0).lEnd.state = .offering ∧ ((withLane0 offeredIn).lane .lane0).sEnd.state = .offering
    ∧ ((withLane0 putHeld).lane .lane0).sEnd.state = .reserved ∧ ((withLane0 taking).lane .lane0).lEnd.state = .reserved
    ∧ (let s := (withLane0 fun l => { blockedAt (.stop 3) l with queue := [toteAt 9 3 .seated] }).setPeer .liftA ⟨.late, false, none⟩
       let f := frameOf 6 1 .beacon [1]
       s.Quiet ∧ s.node = .running ∧ f.code = 0x01 ∧ (f.byte 0).getLsbD 0 = true ∧ f.src = liftNode .lane0
        ∧ s.available (liftPeer .lane0) = false ∧ (s.lane .lane0).recordAt 3 = some (toteAt 9 3 .seated)) :=
  ⟨by decide, ⟨witness_StepKeepsTurningLanesEmpty.1, quiet_is_quiet _, rfl⟩,
   fun _ => ⟨quiet_is_quiet _, show 0 + 7 ≤ 8 by decide⟩, rfl, rfl, rfl, rfl,
   quiet_is_quiet _, rfl, rfl, by decide, rfl, by decide, rfl⟩

/-- Two occurrences that wait, of one block and of two. -/
theorem witness_OccurrenceIsRecorded_order (b : Block) :
    let s := raiseOccurrence b (up.nodeOccurrence .seqRange none)
      (raiseOccurrence .busLink (overflowOf (frameOf 2 23 .reply [])) up)
    s.unlogged = [⟨.busLink, overflowOf (frameOf 2 23 .reply [])⟩, ⟨b, up.nodeOccurrence .seqRange none⟩]
      ∧ (takings s.unlogged).length = (if b = .busLink then 1 else 2) := by
  refine ⟨rfl, ?_⟩
  cases b with
  | ofLane b i => rfl
  | _ => rfl

/-- The routine queue full, for an occurrence of TX_OVERFLOW itself and of another kind. -/
theorem witness_OccurrenceIsRecorded :
    let s := { up with bus := { up.bus with routine := List.replicate 8 (frameOf 5 23 .faultNotice []) } }
    8 ≤ s.bus.routine.length ∧ (s.log.kind .txOverflow).status = false ∧ (s.log.kind .txOverflow).masked = false
      ∧ (s.log.kind .txOverflow).count ≤ 253 ∧ (s.log.kind .length).status = false ∧ (s.log.kind .length).masked = false
      ∧ up.bus.routine.length < 8 := by decide

theorem witness_FaultClearEmptiesTheLog :
    (heading aFaultClear up).Quiet ∧ (heading aFaultClear up).bus.urgent.length < 8
      ∧ (heading aFaultClear up).TakesHead 0x24 aFaultClear [] :=
  ⟨quiet_is_quiet _, by decide, takes_head _ _ (Or.inr rfl)⟩

theorem witness_FaultQueryReportsTheLog (k : Fin 256) :
    ((heading (aFaultQuery k.val) up).Quiet ∧ (heading (aFaultQuery k.val) up).bus.routine.length + 1 < 8
      ∧ (heading (aFaultQuery k.val) up).TakesHead 0x25 (aFaultQuery k.val) []
      ∧ (aFaultQuery k.val).byte 1 = BitVec.ofNat 8 k.val ∧ up.log.first = none)
    ∧ ((heading (aFaultQuery 2) recorded).Quiet ∧ (heading (aFaultQuery 2) recorded).bus.routine.length + 1 < 8
      ∧ (heading (aFaultQuery 2) recorded).log.first.isSome = true) :=
  ⟨⟨quiet_is_quiet _, show 0 + 1 < 8 from by decide, takes_head _ _ (Or.inr rfl), rfl, rfl⟩,
   quiet_is_quiet _, by decide, by decide⟩

theorem witness_LaneResetRunsInventory :
    (let s := heading aLaneReset freed
     s.Quiet ∧ s.bus.urgent.length < 8 ∧ s.TakesHead 0x22 aLaneReset [] ∧ (s.lane .lane0).state ≠ .disabled
      ∧ (s.lane .lane0).blocked .sSill = false ∧ (s.lane .lane0).blocked .lSill = false
      ∧ ((s.lane .lane0).queue.map (·.pos)).Nodup ∧ (∀ r ∈ (s.lane .lane0).queue, r.pos < (s.lane .lane0).n)
      ∧ (s.lane .lane0).sEnd.state = .idle ∧ (s.lane .lane0).lEnd.state = .idle ∧ (s.lane .lane0).turnaround = none
      ∧ (s.lane .lane0).lEnd.head = none ∧ (s.lane .lane0).sEnd.offer = none)
    ∧ (let s := heading aLaneReset (withLane0 fun l => { l with queue := [toteAt 9 0 .seated] })
       ∃ r ∈ (s.lane .lane0).queue, (s.lane .lane0).stopBlocked r.pos = false ∧ r.state ≠ .entering)
    ∧ ((heading aLaneReset (withLane0 fun l => { l with state := .disabled })).lane .lane0).state = .disabled
    ∧ ((heading aLaneReset (withLane0 (blockedAt .lSill))).lane .lane0).blocked .lSill = true
    ∧ (let s := heading aLaneReset (withLane0 doubleHanded)
       s.bus.urgent = [] ∧ (s.lane .lane0).lEnd.state = .reserved ∧ (s.lane .lane0).sEnd.state = .reserved
        ∧ (s.lane .lane0).turnaround.isSome = true) :=
  ⟨⟨quiet_is_quiet _, by decide, takes_head _ _ (Or.inr rfl), nofun, by decide, by decide, by decide, by decide, rfl, rfl,
    rfl, rfl, rfl⟩, by decide, rfl, by decide, rfl, rfl, rfl, rfl⟩

theorem witness_ReceivedFrameIsTheFrameSent :
    (frameOf 6 23 .beacon [1, 0, 1, 0, 64, 255, 255, 1, 0, 64, 255, 255]).payload.length ≤ 12 := by decide

theorem witness_AttemptsSendTheHeads (q : Option TxQueue) (u r : Nat) :
    let s := quiet { waiting with bus := { waiting.bus with attempt := q, urgentTries := u, routineTries := r } }
    s.Quiet ∧ s.node = .running ∧ s.bus.attempt = q ∧ s.bus.urgentTries = u ∧ s.bus.routineTries = r ∧ s.bus.urgent ≠ []
      ∧ s.bus.routine ≠ [] := ⟨quiet_is_quiet _, rfl, rfl, rfl, rfl, nofun, nofun⟩

theorem witness_BeaconExpiryProducesABeacon (n : Nat) :
    (let s := { up with node := .listening, listenExpiries := n, bus := { up.bus with beaconTimer := some 100 } }
     (s.node = .listening ∧ s.bus.beaconTimer.isSome = true ∧ s.listenExpiries = n ∧ (∀ f ∈ s.bus.routine, f.code ≠ 0x01)
      ∧ s.bus.routine.length < 8) ∧ up.node = .running)
    ∧ waiting.bus.routine = [frameOf 5 23 .faultNotice []] ++ frameOf 6 23 .beacon [] :: [] ∧ waiting.bus.attempt = none
    ∧ (frameOf 6 23 .beacon []).code = 0x01 := ⟨⟨⟨rfl, rfl, rfl, nofun, show 0 < 8 from by decide⟩, rfl⟩, rfl, rfl, rfl⟩

theorem witness_ReceivedFrameIsChecked :
    up.node = .running ∧ aPut.payload.length ≤ 12 ∧ keptRow aPut = some ⟨0x0C, some 2, [10], true, true⟩
      ∧ aPut.byte 0 = up.wireLevel ∧ up.bus.received.length < 16
      ∧ keptRow { aPut with payload := [] } = none
      ∧ (keptRow { aLaneReset with src := 3 }).isSome = true
      ∧ ((keptRow (frameOf 6 1 .beacon [1])).map (·.code)) = some 0x01 ∧ up.peerId .liftA = (frameOf 6 1 .beacon [1]).src
      ∧ (16 ≤ ({ up.bus with received := List.replicate 16 aPut } : BusLink).received.length)
      ∧ (crc16 (frameBody aFaultClear) ^^^ 1#16 ≠ crc16 (frameBody aFaultClear))
      ∧ ([true, true, true, true, true, true, false].take 7 ≠ [true, true, true, true, true, true, true])
      ∧ 26 ≤ (frameBody aFaultClear ++ fieldBits (crc16 (frameBody aFaultClear))).length
      ∧ 13 ≤ (13#4).toNat := by decide +kernel

end Sys2Proof.Tests
end

section
/-! Release classes (R57, R59): the lines of the class table, and the class of a record as it is created. -/

namespace Sys2Proof.Machine

open Sys2Proof

/-! ### The classes that allow an offer, and the class at creation -/

theorem eligibleClass_iff (c : ReleaseClass) : eligibleClass c = true ↔ c ≠ .ahead ∧ c ≠ .unknownGroup := by
  cases c <;> simp [eligibleClass]

theorem State.classCreated_of_outward {s : State} {i : LaneId} (t : Tote) (h : (s.lane i).dir = .outward) :
    s.classCreated i t = t.classed (classify s.entryOf t) := if_pos h

theorem State.classCreated_of_inward {s : State} {i : LaneId} (t : Tote) (h : (s.lane i).dir = .inward) :
    s.classCreated i t = t := if_neg (by simp [h])

/-! ### The lines of the table -/

section
variable {entry : GroupNo → Option GroupEntry} {t : Tote} {g : GroupNo} {q : Seq} {e : GroupEntry}

theorem classify_of_ungrouped (h : t.kind = .loose ∨ t.kind = .inbound ∨ t.id = none) : classify entry t = .loose := by
  obtain hk | hk | hid := h
  · simp [classify, hk]
  · simp [classify, hk]
  · cases hk : t.kind <;> simp [classify, hk, hid]

theorem classify_of_no_entry (hk : t.kind = .grouped g q) (hid : t.id ≠ none) (he : entry g = none) :
    classify entry t = .unknownGroup := by
  obtain ⟨n, hn⟩ := Option.ne_none_iff_exists'.mp hid
  simp [classify, hk, hn, he]

theorem classify_of_closed (hk : t.kind = .grouped g q) (hid : t.id ≠ none) (he : entry g = some e)
    (hs : e.state = .closed) : classify entry t = .loose := by
  obtain ⟨n, hn⟩ := Option.ne_none_iff_exists'.mp hid
  simp [classify, hk, hn, he, hs]

/-- Against an OPEN entry the class is read from the forward distance of R44 alone. -/
theorem classify_of_opened (hk : t.kind = .grouped g q) (hid : t.id ≠ none) (he : entry g = some e)
    (hs : e.state = .opened) :
    classify entry t =
      if 2048 ≤ distance e.cursor q then .late
      else if distance e.cursor q < e.window then
        if e.mask.getLsbD (distance e.cursor q) = true then .duplicate else .inWindow
      else .ahead := by
  obtain ⟨n, hn⟩ := Option.ne_none_iff_exists'.mp hid
  simp [classify, hk, hn, he, hs, forwardDist_eq_distance]

end

/-- Settles O31. The last four lines of the table exclude each other because a window of at most 32 ends before the half
circle at 2048. -/
theorem releaseClassesFollowTheTable : Obligations.ReleaseClassesFollowTheTable := by
  intro entry t
  refine ⟨eligibleClass_iff, fun s i => ⟨fun h => ?_, State.classCreated_of_inward t⟩, classify_of_ungrouped, ?_⟩
  · rw [State.classCreated_of_outward t h, Tote.classed]
  · intro g q hk hid
    refine ⟨classify_of_no_entry hk hid, fun e he hw => ⟨classify_of_closed hk hid he, fun hs => ?_⟩⟩
    rw [classify_of_opened hk hid he hs]
    refine ⟨fun late => ?_, fun inWindow clear => ?_, fun inWindow marked => ?_, fun beyond ahead => ?_⟩
    · rw [if_pos late]
    · rw [if_neg (by omega), if_pos inWindow, if_neg (by simp [clear])]
    · rw [if_neg (by omega), if_pos inWindow, if_pos marked]
    · rw [if_neg (by omega), if_neg (by omega)]

end Sys2Proof.Machine
end

section
/-! FAULT CLEAR (R169): what is left of the log of a kind, the REPLY as its bytes, and the closing of the command. -/

namespace Sys2Proof.Machine

open Sys2Proof

/-- R169: the mask and escalate settings of a kind outlast the clearing of its status and count. -/
@[simp] theorem clearLog_kind (g : FaultLog) (k : FaultKind) :
    (clearLog g).kind k = { g.kind k with status := false, count := 0 } := by
  simp only [FaultLog.kind, clearLog, Fin.getElem_fin, getElem_eachOf]

@[simp] theorem clearLog_first (g : FaultLog) : (clearLog g).first = none := rfl

/-- R144, R169: the REPLY of the node to a maintenance frame, as R184 gives its bytes. -/
theorem nodeReply_eq_wire (s : State) (k : FrameKind) :
    s.nodeReply k = wireReply s .lane0 .liftEnd ((kindCode k).setWidth 8) 0 0 none := replyFrame_eq_wire ..

/-- Neither the fault log nor the bus link decides whether a state is settled. -/
theorem State.Quiet.with_bus_log {s : State} (h : s.Quiet) (b : BusLink) (g : FaultLog) :
    State.Quiet { s with bus := b, log := g } := by
  obtain ⟨hcause, hlogged, hholds, hdrives⟩ := h
  refine ⟨hcause, hlogged, fun i => ?_, fun i => ?_⟩
  · cases i with
    | lane0 => exact hholds .lane0
    | lane1 => exact hholds .lane1
  · cases i with
    | lane0 => exact hdrives .lane0
    | lane1 => exact hdrives .lane1

/-- Where a command leaves a settled state but for the frame in hand, its closing puts that frame away and adds nothing. -/
theorem finish_of_quiet_cause {s : State} (h : s.Quiet) (c : Option FrameRef) : finish { s with cause := c } = s := by
  have hholds (i : LaneId) : State.holdStale { s with cause := c } i = false := by
    cases i with
    | lane0 => exact h.holdStale .lane0
    | lane1 => exact h.holdStale .lane1
  obtain ⟨hcause, hlogged, -, hdrives⟩ := h
  have hclosed : finish { s with cause := c } = { s with cause := none } :=
    finish_of_settled _ hlogged hholds fun i => by
      cases i with
      | lane0 => exact hdrives .lane0
      | lane1 => exact hdrives .lane1
  rw [hclosed, ← hcause]

/-- The state a FAULT CLEAR leaves (R169): the head taken, the log emptied and the REPLY appended. -/
def State.faultCleared (s : State) (rest : List Frame) : State :=
  { s.answered rest [wireReply s .lane0 .liftEnd 0x24 0 0 none] with log := clearLog s.log }

/-- R169: where the urgent queue has room for the REPLY, the clearing raises nothing. -/
theorem takeFaultClear_of_room (f : Frame) {s : State} (rest : List Frame) (c : Option FrameRef)
    (h : s.bus.urgent.length < 8) :
    takeFaultClear f { s with bus := { s.bus with received := rest }, cause := c } =
      { s.faultCleared rest with cause := c } := by
  rw [takeFaultClear, nodeReply_eq_wire]
  exact appendFrame_of_room _ _ (show 1 ≤ 3 by decide) h

/-- Settles O53. The clearing leaves a settled state, so that the closing of the command adds nothing to it. -/
theorem faultClearEmptiesTheLog : Obligations.FaultClearEmptiesTheLog := by
  intro s f rest hquiet hroom hhead
  have hcleared : (s.faultCleared rest).Quiet := hquiet.with_bus_log _ _
  have hexec : exec .faultClear s = .next (s.faultCleared rest) := calc
    exec .faultClear s = withFrame .faultClear takeFaultClear s := rfl
    _ = .next (finish { s.faultCleared rest with cause := some f.ref }) := by
      rw [withFrame_taken takeFaultClear hhead, takeFaultClear_of_room f rest _ hroom]
    _ = .next (s.faultCleared rest) := by rw [finish_of_quiet_cause hcleared]
  exact ⟨s.faultCleared rest, hexec, rfl, clearLog_first _, clearLog_kind _⟩

end Sys2Proof.Machine
end
